-- ==== Sys2Proof/Word.lean ====
section
/-! DEFINITION. The two word sizes of QDEC: the 8-bit operation word and the 32-bit data word. -/

namespace Sys2Proof

/-- The 8-bit operation word `op[7:0]` (30_encoding.md R90). -/
abbrev OpWord := BitVec 8

/-- A 32-bit register or a 32-bit word of the command port (00_scope.md R10, 20_memory.md R72). -/
abbrev Word := BitVec 32

end Sys2Proof
end

