-- ==== Sys2Proof/Syntax.lean ====
section
/-! DEFINITION. The operations of QDEC, one constructor for each row of spec/opcode_table.json, and the steps of its four
agents. -/

namespace Sys2Proof

/-- The two input channels (60_exceptions.md R250). -/
inductive Channel where
  | a
  | b
deriving DecidableEq, Repr, Inhabited

/-- The three event sources, each with one pending latch (60_exceptions.md R250, R251). -/
inductive Event where
  | edgeA
  | edgeB
  | tick
deriving DecidableEq, Repr, Inhabited

/-- Who may issue an operation word (30_encoding.md R92, R102). -/
inductive Issuer where
  | serviceEngine
  | host
deriving DecidableEq, Repr

/-- The formats of the operation word (30_encoding.md R93 to R96). -/
inductive Format where
  | e
  | t
  | h
  | hd
deriving DecidableEq, Repr

/-- The operations of QDEC (30_encoding.md R92, R105). `l` is the paired channel's level (true is high), `n` the operand of
INIT, an unsigned number (30_encoding.md R99, R100). -/
inductive Instr where
  | edgeA (l : Bool)
  | edgeB (l : Bool)
  | tick
  | init (n : Nat)
  | setHome
  | getPosition
  | getVelocity
  | disarm
deriving DecidableEq, Repr

/-- One step of one agent (00_scope.md R7, 30_encoding.md R108): the Clock's `ADVANCE 1`, the Sensor's `PIN ch=v`, a host
command with the two words on the command port, the service engine taking an event. -/
inductive AgentStep where
  | clock
  | sensor (ch : Channel) (v : Bool)
  | host (op : OpWord) (dataIn : Word)
  | service (e : Event)
deriving DecidableEq, Repr, Inhabited

end Sys2Proof
end

