-- ==== Sys2Proof/WellFormed.lean ====
section
/-! DEFINITION. Which operations can be written down as words. -/

namespace Sys2Proof

/-- INIT's operand fits the data word `data_in[31:0]` (30_encoding.md R99, R106). No other operation has an operand that
could be out of range. Whether INIT accepts the operand is its meaning (43_host_commands.md R211), no matter of form. -/
def Instr.wellFormed : Instr → Bool
  | .init n => decide (n < 2 ^ 32)
  | .edgeA _ => true
  | .edgeB _ => true
  | .tick => true
  | .setHome => true
  | .getPosition => true
  | .getVelocity => true
  | .disarm => true

end Sys2Proof
end

