-- ==== Sys2Proof/Decode.lean ====
section
/-! DEFINITION. The operation word: its fields, the total decoder of 30_encoding.md R105 with reserved words rejected by
name, the encoder, the formats and issuers, and the host's entry point for table words. -/

namespace Sys2Proof

/-- Why a word is reserved (30_encoding.md R103). -/
inductive Reserved where
  /-- Class 0x0 or a class from 0x8 to 0xF. -/
  | unassignedClass
  /-- Class 0x1 with `rsv` not 0b00. -/
  | edgeReservedBits
  /-- A class from 0x2 to 0x7 with `op[3:0]` not 0. -/
  | lowNibble
deriving DecidableEq, Repr

/-- The field `class`, bits 7:4 (30_encoding.md R91). -/
def opClass (op : OpWord) : BitVec 4 := op.extractLsb' 4 4

/-- Bits 7:2, which select the edge words (30_encoding.md R105). -/
def opEdgeBits (op : OpWord) : BitVec 6 := op.extractLsb' 2 6

/-- The field `l`, bit 1 (30_encoding.md R91, R100). -/
def opLevel (op : OpWord) : Bool := op.getLsbD 1

/-- The field `ch`, bit 0: false is channel A, true channel B (30_encoding.md R91, R100). -/
def opChannelB (op : OpWord) : Bool := op.getLsbD 0

/-- The reason a word that names no operation is reserved (30_encoding.md R103). -/
def reservedReason (op : OpWord) : Reserved :=
  if opClass op = 0x1#4 then .edgeReservedBits
  else if opClass op = 0x0#4 ∨ (0x8#4).ule (opClass op) then .unassignedClass
  else .lowNibble

/-- The decoder, total on all 256 words (30_encoding.md R105). Every data word decodes (R99), and only INIT reads it (R95,
R96). -/
def decode (op : OpWord) (dataIn : Word) : Except Reserved Instr :=
  if opEdgeBits op = 0b000100#6 then
    .ok (if opChannelB op then .edgeB (opLevel op) else .edgeA (opLevel op))
  else if op = 0x20#8 then .ok .tick
  else if op = 0x30#8 then .ok (.init dataIn.toNat)
  else if op = 0x40#8 then .ok .setHome
  else if op = 0x50#8 then .ok .getPosition
  else if op = 0x60#8 then .ok .getVelocity
  else if op = 0x70#8 then .ok .disarm
  else .error (reservedReason op)

/-- An operation word from its fields `class`, `rsv` = 0b00, `l`, `ch` (30_encoding.md R91). -/
def opWord (cls : BitVec 4) (l ch : Bool) : OpWord :=
  cls ++ 0b00#2 ++ BitVec.ofBool l ++ BitVec.ofBool ch

/-- The operation word of an operation (30_encoding.md R92 to R96). -/
def encodeOp : Instr → OpWord
  | .edgeA l => opWord 0x1#4 l false
  | .edgeB l => opWord 0x1#4 l true
  | .tick => opWord 0x2#4 false false
  | .init _ => opWord 0x3#4 false false
  | .setHome => opWord 0x4#4 false false
  | .getPosition => opWord 0x5#4 false false
  | .getVelocity => opWord 0x6#4 false false
  | .disarm => opWord 0x7#4 false false

/-- The data word of an operation: INIT's operand, and 0 where there is none (30_encoding.md R90, R99). -/
def encodeData : Instr → Word
  | .init n => BitVec.ofNat 32 n
  | .edgeA _ => 0
  | .edgeB _ => 0
  | .tick => 0
  | .setHome => 0
  | .getPosition => 0
  | .getVelocity => 0
  | .disarm => 0

/-- The words of an operation: the operation word and the data word beside it. -/
def encode (i : Instr) : OpWord × Word := (encodeOp i, encodeData i)

/-- Whether a data word stands beside the operation word; the operation code alone says so (30_encoding.md R90). -/
def opHasData (op : OpWord) : Bool := opClass op = 0x3#4

/-- The format of an operation (30_encoding.md R92 to R96). -/
def Instr.format : Instr → Format
  | .edgeA _ => .e
  | .edgeB _ => .e
  | .tick => .t
  | .init _ => .hd
  | .setHome => .h
  | .getPosition => .h
  | .getVelocity => .h
  | .disarm => .h

/-- Who issues an operation: the service engine formats E and T, the host formats H and HD (30_encoding.md R102). -/
def Instr.issuer (i : Instr) : Issuer :=
  match i.format with
  | .e => .serviceEngine
  | .t => .serviceEngine
  | .h => .host
  | .hd => .host

/-- What the command port accepts: a word that decodes to an operation the host may issue. A reserved word, an edge word and
the tick word are turned away (30_encoding.md R102, R103; 60_exceptions.md R272, R273). -/
def portAccepts (op : OpWord) (dataIn : Word) : Option Instr :=
  match decode op dataIn with
  | .ok i => if i.issuer = .host then some i else none
  | .error _ => none

/-- The edge operation of a channel (30_encoding.md R105: EDGE_A for `ch` = 0, EDGE_B for `ch` = 1). -/
def Instr.edge : Channel → Bool → Instr
  | .a, l => .edgeA l
  | .b, l => .edgeB l

/-- The pseudo-operation `EDGE_A_CW` (30_encoding.md R107). -/
def Instr.edgeACw : Instr := .edgeA false
/-- The pseudo-operation `EDGE_A_CCW` (30_encoding.md R107). -/
def Instr.edgeACcw : Instr := .edgeA true
/-- The pseudo-operation `EDGE_B_CCW` (30_encoding.md R107). -/
def Instr.edgeBCcw : Instr := .edgeB false
/-- The pseudo-operation `EDGE_B_CW` (30_encoding.md R107). -/
def Instr.edgeBCw : Instr := .edgeB true

/-- The operation word of a table word: its bits 7:0, a bit at or above `nbits` read as 0. -/
def tableOp (nbits w : Nat) : OpWord := BitVec.ofNat 8 (w % 2 ^ nbits)

/-- The data word of a table word: the 32 bits that count on after the operation word. -/
def tableData (nbits w : Nat) : Word := BitVec.ofNat 32 (w % 2 ^ nbits / 2 ^ 8)

/-- The operation the decoder reads from a table word of `nbits` bits. -/
def decodeTableWord (nbits w : Nat) : Option Instr :=
  (decode (tableOp nbits w) (tableData nbits w)).toOption

end Sys2Proof
end

