-- ==== Sys2Proof/Config.lean ====
section
/-! DEFINITION. What a block fixes and what the spec leaves free: the three parameters, and the order in which the agents
step. Both are opaque constants without a body, so nothing can be proved about their values. -/

namespace Sys2Proof

/-- The configuration parameters (00_scope.md R8). The types admit exactly the legal ranges: `FAST_THRESHOLD` from 0 to
2^31-1, `TICK_PERIOD_US` from 1 to 2^32-1 (held as the period less 1), `FILTER_COST_US` from 0 to 2^32-1. -/
structure Config where
  fastThreshold : Fin 2147483648
  tickPeriodLess1 : Fin 4294967295
  filterCostUs : Word
deriving DecidableEq, Repr, Inhabited

/-- `FAST_THRESHOLD` in pulses per second (00_scope.md R8). -/
def Config.threshold (c : Config) : Nat := c.fastThreshold.val

/-- `TICK_PERIOD_US` in microseconds (00_scope.md R8). -/
def Config.tickPeriodUs (c : Config) : Nat := c.tickPeriodLess1.val + 1

/-- The parameters of the block being modelled. Their values are OPEN in the spec (00_scope.md R8, decisions D8 and D9); see
assumption 4. -/
opaque Config.block : Config

/-- The agent step taken at the `n`-th draw while the agenda is empty: any agent's step may be next (00_scope.md R7,
60_exceptions.md R259, decision D20); see assumption 1. -/
opaque Config.schedule (n : Nat) : AgentStep

/-- The example configuration EX of the test vectors, an illustration and no default (00_scope.md R11). -/
def Config.ex : Config := ⟨100, 15999, 0⟩

end Sys2Proof
end

