-- ==== Sys2Proof/Machine/State.lean ====
section
/-! DEFINITION. The state of QDEC: every register of 10_state.md R32, the response of the last step, and the agent steps to
come. Also the reasons a step could stop, and the state after reset. -/

namespace Sys2Proof.Machine

/-- A direction: CCW is +1, CW is -1 (00_scope.md R15, assumption 13). -/
inductive Dir where
  | ccw
  | cw
deriving DecidableEq, Repr

/-- The status of a host command (30_encoding.md R98, 60_exceptions.md R270). -/
inductive Status where
  | ok
  | configError
  | illegal
deriving DecidableEq, Repr

/-- The response to a host command: `status[1:0]` and `data_out[31:0]` (30_encoding.md R97). -/
structure Response where
  status : Status
  dataOut : Word
deriving DecidableEq, Repr

/-- The registers of QDEC (10_state.md R32), in its order, then three fields of the model's own. -/
structure State where
  /-- `ppr` (R33). -/
  ppr : Word
  /-- `position` (R34). -/
  position : Word
  /-- `dir_vec` (R35). -/
  dirVec : Dir
  /-- `dir_changed` (R36). -/
  dirChanged : Bool
  /-- `speed_cur` (R37). -/
  speedCur : Word
  /-- `speed_prev` (R38). -/
  speedPrev : Word
  /-- `pulses_per_sample`, two's complement (R39). -/
  pulsesPerSample : Word
  /-- `last_edge_us` (R40). -/
  lastEdgeUs : Word
  /-- `fast_mode` (R41). -/
  fastMode : Bool
  /-- `armed` (R42). -/
  armed : Bool
  /-- `cfg_error` (R43). -/
  cfgError : Bool
  /-- `now_us` (R44). -/
  nowUs : Word
  /-- `tick_timer` (R45). -/
  tickTimer : Word
  /-- `pend_a` (R46). -/
  pendA : Bool
  /-- `pend_b` (R46). -/
  pendB : Bool
  /-- `pend_tick` (R46). -/
  pendTick : Bool
  /-- `lvl_a` (R47). -/
  lvlA : Bool
  /-- `lvl_b` (R47). -/
  lvlB : Bool
  /-- The model's own: the output of the step just taken (R48 and assumption 3). -/
  response : Option Response
  /-- The model's own: the agent steps that come next (60_exceptions.md R259 and assumption 1). -/
  agenda : List AgentStep
  /-- The model's own: how many agent steps were drawn from `Config.schedule` (assumption 1). -/
  drawn : Nat
deriving DecidableEq, Repr

/-- The faults of QDEC: none. EDGE_A, EDGE_B and TICK raise nothing and are total, and a host command ends with a status
(60_exceptions.md R269, R270). -/
inductive Fault where
deriving DecidableEq, Repr

/-- The refusals of the model. -/
inductive Refusal where
  /-- Raised by an arm of `exec` whose operation has no meaning yet; no arm raises it. Safe: the run stops. -/
  | notModelled (mnemonic : String)
deriving DecidableEq, Repr

/-- The state after a hardware reset: every register at the value of 10_state.md R32 and 70_reset_and_hazards.md R290. The
response, the agenda and the draw counter are the model's own (assumptions 1 and 3). -/
def State.reset : State where
  ppr := 0
  position := 0
  dirVec := .ccw
  dirChanged := false
  speedCur := 0
  speedPrev := 0
  pulsesPerSample := 0
  lastEdgeUs := 0
  fastMode := false
  armed := false
  cfgError := false
  nowUs := 0
  tickTimer := 0
  pendA := false
  pendB := false
  pendTick := false
  lvlA := false
  lvlB := false
  response := none
  agenda := []
  drawn := 0

end Sys2Proof.Machine
end

