-- ==== Sys2Proof/Machine/Operands.lean ====
section
/-! DEFINITION. Operand forms and number conventions: widths, wrap functions, directions, INIT's operand, an edge's operands,
the status code and the two read-outs. -/

namespace Sys2Proof.Machine

/-- `SPEED_MAX` (00_scope.md R10). -/
def speedMax : Nat := 2 ^ 31 - 1

/-- `PPR_MAX` (00_scope.md R9). -/
def pprMax : Nat := 2 ^ 31 - 1

/-- `wrapU32`: the word congruent to `v` modulo 2^32 (00_scope.md R13). -/
def wrapU32 (v : Int) : Word := BitVec.ofInt 32 v

/-- `wrapS32`: the integer from -2^31 to 2^31-1 congruent to `v` modulo 2^32 (00_scope.md R13). -/
def wrapS32 (v : Int) : Int := (wrapU32 v).toInt

/-- The integer of a direction: +1 for CCW, -1 for CW (00_scope.md R15). -/
def Dir.toInt : Dir → Int
  | .ccw => 1
  | .cw => -1

/-- The bit that `dir_vec` holds: 0 for +1, 1 for -1 (10_state.md R35). -/
def Dir.bit : Dir → BitVec 1
  | .ccw => 0
  | .cw => 1

/-- The status code `status[1:0]`; 0b11 is never returned (30_encoding.md R98). -/
def Status.code : Status → BitVec 2
  | .ok => 0b00
  | .configError => 0b01
  | .illegal => 0b10

/-- `decodeDir`: the direction from the channel of the edge and the paired channel's level (40_edge_decoder.md R121). -/
def decodeDir : Channel → Bool → Dir
  | .a, false => .cw
  | .a, true => .ccw
  | .b, false => .ccw
  | .b, true => .cw

/-- INIT's operand is legal from 1 to `PPR_MAX` (43_host_commands.md R211). -/
def pprLegal (n : Nat) : Bool := decide (1 ≤ n ∧ n ≤ pprMax)

/-- `now`: `now_us` as an operation finds it; no Clock step falls inside an operation (60_exceptions.md R262). -/
def State.now (s : State) : Word := s.nowUs

/-- The time since `last_edge_us`, a 32-bit modular difference (40_edge_decoder.md R124, 42_sample_clock.md R183). -/
def State.elapsed (s : State) : Nat := (wrapU32 ((s.now.toNat : Int) - s.lastEdgeUs.toNat)).toNat

/-- The level of a channel (10_state.md R47). -/
def State.level (s : State) : Channel → Bool
  | .a => s.lvlA
  | .b => s.lvlB

/-- The pending latch of an event source (10_state.md R46). -/
def State.pending (s : State) : Event → Bool
  | .edgeA => s.pendA
  | .edgeB => s.pendB
  | .tick => s.pendTick

/-- The event of a rising edge on a channel (60_exceptions.md R250). -/
def channelEvent : Channel → Event
  | .a => .edgeA
  | .b => .edgeB

/-- The magnitude of `pulses_per_sample`, 0 to 2^31 (42_sample_clock.md R181). -/
def State.pulseCount (s : State) : Nat := s.pulsesPerSample.toInt.natAbs

/-- The direction of a sample: non-negative is CCW, negative is CW (42_sample_clock.md R181). -/
def State.sampleDir (s : State) : Dir := if 0 ≤ s.pulsesPerSample.toInt then .ccw else .cw

/-- The signed velocity `speed_cur * dir_vec` (41_velocity_filter.md R165). -/
def State.velocity (s : State) : Int := s.speedCur.toNat * s.dirVec.toInt

end Sys2Proof.Machine
end

