-- ==== Sys2Proof/Machine/Flags.lean ====
section
/-! DEFINITION. The computations of QDEC's one-bit conditions (10_state.md R49): a reversal, the strategy predicate, the
stall, a rising edge, the legality of a configuration. -/

namespace Sys2Proof.Machine

/-- The new `dir_changed`: the new direction differs from the last recorded one (41_velocity_filter.md R151). -/
def dirDiffers (d : Dir) (s : State) : Bool := decide (d ≠ s.dirVec)

/-- `fastSelect`: strictly above `FAST_THRESHOLD`, with no hysteresis band (41_velocity_filter.md R162, R163). -/
def fastSelect (c : Config) (speed : Nat) : Bool := decide (speed > c.threshold)

/-- `allowed_silence`, an exact product halved with floor division (42_sample_clock.md R183). It is read only where
`speed_cur` is at most `FAST_THRESHOLD`. -/
def allowedSilence (c : Config) (speed : Nat) : Nat := (c.threshold - speed) * c.tickPeriodUs / 2

/-- `stalled`: the silence is longer than allowed; above `FAST_THRESHOLD` there is no stall (42_sample_clock.md R183). -/
def stalled (c : Config) (s : State) : Bool :=
  if s.speedCur.toNat ≤ c.threshold then decide (s.elapsed > allowedSilence c s.speedCur.toNat) else false

/-- A Sensor step raises an edge: a 0 to 1 change while armed (60_exceptions.md R252). -/
def risesArmed (ch : Channel) (v : Bool) (s : State) : Bool := !s.level ch && v && s.armed

end Sys2Proof.Machine
end

