-- ==== Sys2Proof/Machine/Ops.lean ====
section
/-! DEFINITION. The named operations on the registers, each written once: the response of a step, the latches, the Sensor
and Clock steps, the edge decoder's and the velocity estimator's functions, the stages of TICK, hardware reset. QDEC takes no
exception: service entry (`takeEvent`) and `raise` of a status are its nearest equivalents (60_exceptions.md R260, R270), and
there is nothing to return from (R265). -/

namespace Sys2Proof.Machine

/-! ### The response of a step -/

/-- A step without a response: Clock, Sensor and service steps return none (30_encoding.md R97). -/
def State.silent (s : State) : State := { s with response := none }

/-- A host command that ends with status OK and a data word (30_encoding.md R97). -/
def State.answer (v : Word) (s : State) : State := { s with response := some ⟨.ok, v⟩ }

/-- `raise <Status>`: a host command ends with that status and `data_out` = 0 (60_exceptions.md R270). -/
def State.raise (st : Status) (s : State) : State := { s with response := some ⟨st, 0⟩ }

/-! ### Latches, levels and time -/

/-- Sets the latch of an event source; a set latch stays set, so the event is lost (60_exceptions.md R253, R258). -/
def State.raiseEvent (e : Event) (s : State) : State :=
  match e with
  | .edgeA => { s with pendA := true }
  | .edgeB => { s with pendB := true }
  | .tick => { s with pendTick := true }

/-- Service entry: the service engine takes an event, which clears its latch; nothing is saved and no mode changes
(60_exceptions.md R260). -/
def State.takeEvent (e : Event) (s : State) : State :=
  match e with
  | .edgeA => { s with pendA := false }
  | .edgeB => { s with pendB := false }
  | .tick => { s with pendTick := false }

/-- Drops every pending event (43_host_commands.md R211, R215; 60_exceptions.md R254). -/
def State.clearLatches (s : State) : State := { s with pendA := false, pendB := false, pendTick := false }

/-- Disarms the block: `armed` and the latches are cleared (43_host_commands.md R211, R215). -/
def State.disarm (s : State) : State := { s.clearLatches with armed := false }

/-- Writes the level of a channel (60_exceptions.md R252). -/
def State.setLevel (ch : Channel) (v : Bool) (s : State) : State :=
  match ch with
  | .a => { s with lvlA := v }
  | .b => { s with lvlB := v }

/-- The Sensor step `PIN ch=v` (60_exceptions.md R252, R254). -/
def State.sensorStep (ch : Channel) (v : Bool) (s : State) : State :=
  if risesArmed ch v s then (s.setLevel ch v).raiseEvent (channelEvent ch) else s.setLevel ch v

/-- `sampleTimer` (60_exceptions.md R257). -/
def State.sampleTimer (c : Config) (s : State) : State :=
  if s.armed then
    if s.tickTimer.toNat + 1 = c.tickPeriodUs then
      State.raiseEvent .tick { s with tickTimer := 0 }
    else { s with tickTimer := wrapU32 (s.tickTimer.toNat + 1) }
  else s

/-- The Clock step `ADVANCE 1` (60_exceptions.md R256). -/
def State.clockStep (c : Config) (s : State) : State :=
  State.sampleTimer c { s with nowUs := wrapU32 (s.nowUs.toNat + 1) }

/-! ### The velocity estimator -/

/-- `RecordDirection` (41_velocity_filter.md R151). -/
def State.recordDirection (d : Dir) (s : State) : State := { s with dirChanged := dirDiffers d s, dirVec := d }

/-- `rawSample`: exact product, floor division with a zero period divided as 1, saturated (41_velocity_filter.md R157). -/
def rawSample (samples period : Nat) : Nat :=
  min (samples * 1000000 / (if period = 0 then 1 else period)) speedMax

/-- The normal filter formula, weight 3/8 on the new sample (41_velocity_filter.md R155). -/
def filterNormal (raw prev : Nat) : Nat := (3 * raw + 5 * prev) / 8

/-- The reversal filter formula, weight 3/4 on the new sample (41_velocity_filter.md R155). -/
def filterReversal (raw prev : Nat) : Nat := (3 * raw + prev) / 4

/-- The filter's output: the reversal formula where `dir_changed` is set (41_velocity_filter.md R155). -/
def filterOutput (changed : Bool) (raw prev : Nat) : Nat :=
  if changed then filterReversal raw prev else filterNormal raw prev

/-- `UpdateSpeed`: shift, filter, clear `dir_changed` (41_velocity_filter.md R153 to R156). -/
def State.updateSpeed (samples period : Nat) (s : State) : State :=
  { s with
    speedPrev := s.speedCur
    speedCur := wrapU32 (filterOutput s.dirChanged (rawSample samples period) s.speedCur.toNat)
    dirChanged := false }

/-! ### The edge decoder -/

/-- The position after one count, with wraparound (40_edge_decoder.md R123). DEDUCED where `ppr` is 0, which no run reaches:
assumption 5. -/
def nextPosition (ppr position : Nat) (d : Dir) : Int :=
  let p : Int := position + d.toInt
  if p < 0 then (ppr : Int) - 1 else if p ≥ ppr then 0 else p

/-- The position update (40_edge_decoder.md R123). -/
def State.movePosition (d : Dir) (s : State) : State :=
  { s with position := wrapU32 (nextPosition s.ppr.toNat s.position.toNat d) }

/-- The slow path's timestamp: `last_edge_us + elapsed - FILTER_COST_US` (40_edge_decoder.md R124); a constant cost,
assumption 11. -/
def State.stampSlow (c : Config) (elapsed : Nat) (s : State) : State :=
  { s with lastEdgeUs := wrapU32 ((s.lastEdgeUs.toNat : Int) + elapsed - c.filterCostUs.toNat) }

/-- The slow path of an edge (40_edge_decoder.md R124). -/
def State.slowEdge (c : Config) (d : Dir) (s : State) : State :=
  ((s.recordDirection d).updateSpeed 1 s.elapsed).stampSlow c s.elapsed

/-- The fast path of an edge (40_edge_decoder.md R125). -/
def State.fastEdge (d : Dir) (s : State) : State :=
  { s with
    pulsesPerSample := wrapU32 (wrapS32 (s.pulsesPerSample.toInt + d.toInt))
    lastEdgeUs := s.now }

/-- `UpdatePosition`: the position first, then the path that `fast_mode` selects (40_edge_decoder.md R122). -/
def State.updatePosition (c : Config) (d : Dir) (s : State) : State :=
  if s.fastMode then (s.movePosition d).fastEdge d else (s.movePosition d).slowEdge c d

/-- An edge operation on a channel with the paired channel's level (40_edge_decoder.md R127, R128). -/
def State.edge (c : Config) (ch : Channel) (l : Bool) (s : State) : State := s.updatePosition c (decodeDir ch l)

/-! ### The stages of TICK -/

/-- Step 1 of TICK, in fast mode (42_sample_clock.md R181). -/
def State.fastSample (c : Config) (s : State) : State :=
  (s.recordDirection s.sampleDir).updateSpeed s.pulseCount c.tickPeriodUs

/-- The stall action (42_sample_clock.md R184, R185). -/
def State.stall (s : State) : State := { s with speedPrev := s.speedCur, speedCur := 0 }

/-- Step 2 of TICK, in slow mode (42_sample_clock.md R183, R184). -/
def State.stallCheck (c : Config) (s : State) : State := if stalled c s then s.stall else s

/-- Step 3 of TICK (42_sample_clock.md R186). -/
def State.clearPulses (s : State) : State := { s with pulsesPerSample := 0 }

/-- Step 4 of TICK (42_sample_clock.md R187). -/
def State.selectMode (c : Config) (s : State) : State := { s with fastMode := fastSelect c s.speedCur.toNat }

/-- The four steps of TICK (42_sample_clock.md R188). -/
def State.tick (c : Config) (s : State) : State :=
  (if s.fastMode then s.fastSample c else s.stallCheck c).clearPulses.selectMode c

/-! ### INIT and hardware reset -/

/-- A successful INIT (43_host_commands.md R211). -/
def State.configure (n : Nat) (s : State) : State :=
  { s with
    ppr := wrapU32 n
    position := 0
    dirVec := .ccw
    dirChanged := false
    speedCur := 0
    speedPrev := 0
    pulsesPerSample := 0
    lastEdgeUs := s.now
    fastMode := false
    armed := true
    cfgError := false
    tickTimer := 0
    pendA := false
    pendB := false
    pendTick := false }

/-- A failing INIT up to its `raise` (43_host_commands.md R211, 60_exceptions.md R271). -/
def State.rejectConfig (s : State) : State := { s.disarm with cfgError := true }

/-- A hardware reset at any time: every register at its reset value, the agent steps to come untouched
(70_reset_and_hazards.md R290). No agent of 00_scope.md R7 takes it as a step; see assumption 8. -/
def State.hardReset (s : State) : State := { State.reset with agenda := s.agenda, drawn := s.drawn }

end Sys2Proof.Machine
end

