-- ==== Sys2Proof/Machine/Commands.lean ====
section
/-! DEFINITION. The meanings of the host commands (43_host_commands.md). -/

namespace Sys2Proof.Machine

/-- INIT: configure and arm the block, or CONFIG_ERROR (43_host_commands.md R211, 60_exceptions.md R271). -/
def execInit (n : Nat) (s : State) : Host.Outcome State Fault Refusal :=
  if pprLegal n then .next ((s.configure n).answer 0) else .next (s.rejectConfig.raise .configError)

/-- SET_HOME: `position` becomes 0 (43_host_commands.md R212). -/
def execSetHome (s : State) : Host.Outcome State Fault Refusal :=
  .next (State.answer 0 { s with position := 0 })

/-- GET_POSITION: answer `position` (43_host_commands.md R213). -/
def execGetPosition (s : State) : Host.Outcome State Fault Refusal :=
  .next (s.answer s.position)

/-- GET_VELOCITY: answer the signed velocity in two's complement (43_host_commands.md R214, 30_encoding.md R101). -/
def execGetVelocity (s : State) : Host.Outcome State Fault Refusal :=
  .next (s.answer (wrapU32 s.velocity))

/-- DISARM: disarm the edge sources and the sample timer (43_host_commands.md R215). -/
def execDisarm (s : State) : Host.Outcome State Fault Refusal :=
  .next (s.disarm.answer 0)

end Sys2Proof.Machine
end

