-- ==== Sys2Proof/Machine/Edge.lean ====
section
/-! DEFINITION. The meanings of EDGE_A and EDGE_B (40_edge_decoder.md). -/

namespace Sys2Proof.Machine

/-- EDGE_A: serve a rising edge on channel A; `l` is channel B's level (40_edge_decoder.md R127). -/
def execEdgeA (l : Bool) (s : State) : Host.Outcome State Fault Refusal :=
  .next (s.edge Config.block .a l).silent

/-- EDGE_B: serve a rising edge on channel B; `l` is channel A's level (40_edge_decoder.md R128). -/
def execEdgeB (l : Bool) (s : State) : Host.Outcome State Fault Refusal :=
  .next (s.edge Config.block .b l).silent

end Sys2Proof.Machine
end

