-- ==== Sys2Proof/Machine/Tick.lean ====
section
/-! DEFINITION. The meaning of TICK (42_sample_clock.md). -/

namespace Sys2Proof.Machine

/-- TICK: serve one sample-timer event (42_sample_clock.md R188). -/
def execTick (s : State) : Host.Outcome State Fault Refusal :=
  .next (s.tick Config.block).silent

end Sys2Proof.Machine
end

