-- ==== Sys2Proof/Machine/Dispatch.lean ====
section
/-! DEFINITION. The one match over the operations. -/

namespace Sys2Proof.Machine

-- The meaning of an operation, whoever issues it; which agent may issue it is the port's and the service engine's matter (assumption 12).
def exec (i : Instr) (s : State) : Host.Outcome State Fault Refusal :=
  match i with
  | .edgeA l => Sys2Proof.Machine.execEdgeA l s
  | .edgeB l => Sys2Proof.Machine.execEdgeB l s
  | .tick => Sys2Proof.Machine.execTick s
  | .init n => Sys2Proof.Machine.execInit n s
  | .setHome => Sys2Proof.Machine.execSetHome s
  | .getPosition => Sys2Proof.Machine.execGetPosition s
  | .getVelocity => Sys2Proof.Machine.execGetVelocity s
  | .disarm => Sys2Proof.Machine.execDisarm s

end Sys2Proof.Machine
end

