-- ==== Sys2Proof/Machine/Agents.lean ====
section
/-! DEFINITION. The steps of the four agents (00_scope.md R7) and the choice of the next one. This is QDEC's fetch: it has no
program counter, and what it performs next is an event or a host command (10_state.md R31). -/

namespace Sys2Proof.Machine

/-- The operation the service engine performs for an event; an edge's level is the paired channel's now (60_exceptions.md
R260, R263). -/
def serviceInstr (e : Event) (s : State) : Instr :=
  match e with
  | .edgeA => .edgeA s.lvlB
  | .edgeB => .edgeB s.lvlA
  | .tick => .tick

/-- The operation word the service engine builds from a latch (30_encoding.md R102). -/
def serviceWord (e : Event) (s : State) : OpWord :=
  match e with
  | .edgeA => opWord 0x1#4 s.lvlB false
  | .edgeB => opWord 0x1#4 s.lvlA true
  | .tick => 0x20#8

/-- One host command: performed where the port accepts it, else answered ILLEGAL with no register written
(43_host_commands.md R210, R216). -/
def hostCommand (op : OpWord) (dataIn : Word) (s : State) : Host.Outcome State Fault Refusal :=
  match portAccepts op dataIn with
  | some i => exec i s
  | none => .next (s.raise .illegal)

/-- One service step: clear the latch and perform the operation (60_exceptions.md R260). Where the latch is clear the service
engine has nothing to take and idles (assumption 2). -/
def serviceStep (e : Event) (s : State) : Host.Outcome State Fault Refusal :=
  if s.pending e then exec (serviceInstr e s) (s.takeEvent e) else .next s.silent

/-- One step of one agent (00_scope.md R7, 20_memory.md R76). -/
def agentStep (a : AgentStep) (s : State) : Host.Outcome State Fault Refusal :=
  match a with
  | .clock => .next (s.clockStep Config.block).silent
  | .sensor ch v => .next (s.sensorStep ch v).silent
  | .host op dataIn => hostCommand op dataIn s
  | .service e => serviceStep e s

/-- The agent step that is next: the agenda's first, or a draw from the free schedule where the agenda is empty
(assumption 1). -/
def State.nextAgent (s : State) : AgentStep :=
  match s.agenda with
  | a :: _ => a
  | [] => Config.schedule s.drawn

/-- The state once its next agent step has been chosen. -/
def State.afterChoice (s : State) : State :=
  match s.agenda with
  | _ :: rest => { s with agenda := rest }
  | [] => { s with drawn := s.drawn + 1 }

/-- Puts an agent step before all others. -/
def State.offer (a : AgentStep) (s : State) : State := { s with agenda := a :: s.agenda }

/-- Makes the next step issue an operation word: a service-engine word through its latch and the paired level it is built
from (30_encoding.md R102), any other word on the host's command port. -/
def State.offerWord (op : OpWord) (dataIn : Word) (s : State) : State :=
  match decode op dataIn with
  | .ok (.edgeA l) => ((s.setLevel .b l).raiseEvent .edgeA).offer (.service .edgeA)
  | .ok (.edgeB l) => ((s.setLevel .a l).raiseEvent .edgeB).offer (.service .edgeB)
  | .ok .tick => (s.raiseEvent .tick).offer (.service .tick)
  | _ => s.offer (.host op dataIn)

/-- `k` Clock steps, the trace line `ADVANCE k` (30_encoding.md R108). -/
def advance (k : Nat) : List AgentStep := List.replicate k .clock

end Sys2Proof.Machine
end

