-- ==== Sys2Proof/Machine/Step.lean ====
section
/-! DEFINITION. One step of the machine: the next agent takes its step. -/

namespace Sys2Proof.Machine

/-- One atomic step of the total order (20_memory.md R76). -/
def step (s : State) : Host.Outcome State Fault Refusal :=
  agentStep s.nextAgent s.afterChoice

/-- The state whose next step issues the table word `w` (assumption 7). -/
def State.withFetchWord (s : State) (nbits w : Nat) : State :=
  s.offerWord (tableOp nbits w) (tableData nbits w)

end Sys2Proof.Machine
end

