-- ==== Sys2Proof/Safety.lean ====
section
/-! DEFINITION. What counts as a good state and a good run of QDEC: the invariants of 10_state.md R50, when an agent step is
enabled, executions and weak fairness, and when two states look alike to the host. -/

namespace Sys2Proof.Machine

/-- The invariants that hold between any two steps (10_state.md R50). -/
structure State.Inv (c : Config) (s : State) : Prop where
  /-- Item 1: an armed block has a legal modulus and a position below it. -/
  armedRange : s.armed = true → 1 ≤ s.ppr.toNat ∧ s.ppr.toNat ≤ pprMax ∧ s.position.toNat < s.ppr.toNat
  /-- Item 2: `dir_changed` is transient inside one operation. -/
  dirSettled : s.dirChanged = false
  /-- Item 3: speeds are in range. -/
  curBounded : s.speedCur.toNat ≤ speedMax
  prevBounded : s.speedPrev.toNat ≤ speedMax
  /-- Item 4: slow mode has an empty accumulator. -/
  slowEmpty : s.fastMode = false → s.pulsesPerSample = 0
  /-- Item 5: the sample timer is below its period. -/
  timerBelow : s.tickTimer.toNat < c.tickPeriodUs
  /-- Item 6: a disarmed block has no pending event. -/
  quietDisarmed : s.armed = false → ∀ e, s.pending e = false

/-- `k` steps in a row; the machine's run, on its own types. -/
def run : Nat → State → Host.Outcome State Fault Refusal
  | 0, s => .next s
  | k + 1, s =>
    match step s with
    | .next t => run k t
    | .fault r => .fault r
    | .refused r => .refused r

/-- When an agent may take a step: always, but that the service engine takes only a set latch (00_scope.md R7,
60_exceptions.md R260). -/
def Enabled (a : AgentStep) (s : State) : Prop :=
  match a with
  | .service e => s.pending e = true
  | .clock => True
  | .sensor _ _ => True
  | .host _ _ => True

/-- An execution: `st n` is the state before the `n`-th step, `act n` the agent step taken there (20_memory.md R76). -/
structure Execution where
  st : Nat → State
  act : Nat → AgentStep
  follows : ∀ n, agentStep (act n) (st n) = .next (st (n + 1))

/-- Weak fairness: a latch that stays set is eventually served (60_exceptions.md R261). -/
def Execution.WeaklyFair (x : Execution) : Prop :=
  ∀ e n, (∀ m, n ≤ m → (x.st m).pending e = true) → ∃ m, n ≤ m ∧ x.act m = .service e

/-- Two states that differ at most in `speed_prev` and `cfg_error`, which no operation reads before it overwrites them
(42_sample_clock.md R192, 10_state.md R43). -/
def State.SameButHidden (s t : State) : Prop :=
  { s with speedPrev := 0, cfgError := false } = { t with speedPrev := 0, cfgError := false }

/-- What the host observes of a step: its response (10_state.md R51). -/
def State.observed (s : State) : Option Response := s.response

/-- The agent step is a host command with INIT's operation word. -/
def isInitCommand : AgentStep → Bool
  | .host op _ => op = 0x30#8
  | .clock => false
  | .sensor _ _ => false
  | .service _ => false

/-- The agent step is a service step for an edge. -/
def isEdgeService : AgentStep → Bool
  | .service .edgeA => true
  | .service .edgeB => true
  | .service .tick => false
  | .clock => false
  | .sensor _ _ => false
  | .host _ _ => false

end Sys2Proof.Machine
end

