-- ==== Sys2Proof/Certificates/Slice0/Obligations.lean ====
section
/-! DEFINITION. The statements for the provers. QDEC has no memory, so no statement speaks of memory; a statement that gives
an operation's next state as an equation `s with …` is also its frame: every register it does not name is unchanged.
`Config.block` is opaque, so a statement about it holds for every legal choice of the three parameters. -/

open Sys2Proof Sys2Proof.Machine

/-! ### Encoding -/

/-- Decoding the words of any well-formed operation gives it back (30_encoding.md R90 to R105). -/
def Obligations.DecodeInvertsEncode : Prop :=
  ∀ i : Instr, i.wellFormed = true → decode (encode i).1 (encode i).2 = .ok i

/-- What a word decodes to is well-formed and encodes to that word, and to that data word where it has one (30_encoding.md
R90 to R105). -/
def Obligations.EncodeInvertsDecode : Prop :=
  ∀ (op : OpWord) (d : Word) (i : Instr), decode op d = .ok i →
    i.wellFormed = true ∧ (encode i).1 = op ∧ (opHasData op = true → (encode i).2 = d)

/-- The decoder follows the match and mask of every format, ignores the data word but for INIT, reserves every other word,
and the host port turns away what the host may not issue (30_encoding.md R94, R95, R96, R105). -/
def Obligations.DecodeByMatchAndMask : Prop :=
  ∀ (op : OpWord) (d : Word),
    (op &&& 0xFC#8 = 0x10#8 →
      decode op d = .ok (if op.getLsbD 0 then .edgeB (op.getLsbD 1) else .edgeA (op.getLsbD 1))) ∧
    (op &&& 0xFF#8 = 0x20#8 → decode op d = .ok .tick) ∧
    (op &&& 0xFF#8 = 0x30#8 → decode op d = .ok (.init d.toNat)) ∧
    (op &&& 0xFF#8 = 0x40#8 → decode op d = .ok .setHome) ∧
    (op &&& 0xFF#8 = 0x50#8 → decode op d = .ok .getPosition) ∧
    (op &&& 0xFF#8 = 0x60#8 → decode op d = .ok .getVelocity) ∧
    (op &&& 0xFF#8 = 0x70#8 → decode op d = .ok .disarm) ∧
    (op &&& 0xFC#8 ≠ 0x10#8 → op ∉ [0x20#8, 0x30#8, 0x40#8, 0x50#8, 0x60#8, 0x70#8] → ∃ r, decode op d = .error r) ∧
    ((op &&& 0xFC#8 = 0x10#8 ∨ op = 0x20#8) → portAccepts op d = none)

/-- The reserved words: which they are, that they are 246, what the host gets for one, and that the service engine builds
none (30_encoding.md R103). -/
def Obligations.ReservedWords : Prop :=
  (∀ (op : OpWord) (d : Word), (∃ r, decode op d = .error r) ↔
    op ∉ [0x10#8, 0x11#8, 0x12#8, 0x13#8, 0x20#8, 0x30#8, 0x40#8, 0x50#8, 0x60#8, 0x70#8]) ∧
  (∀ (op : OpWord) (d : Word), (∃ r, decode op d = .error r) ↔
    (op.toNat / 16 = 0 ∨ 8 ≤ op.toNat / 16 ∨ (op.toNat / 16 = 1 ∧ op.toNat / 4 % 4 ≠ 0) ∨
      (2 ≤ op.toNat / 16 ∧ op.toNat / 16 ≤ 7 ∧ op.toNat % 16 ≠ 0))) ∧
  (∀ d : Word, ((List.range 256).filter (fun n => (decode (BitVec.ofNat 8 n) d).toOption.isNone)).length = 246) ∧
  (∀ (s : State) (op : OpWord) (d : Word) (rest : List AgentStep), s.agenda = .host op d :: rest →
    (∃ r, decode op d = .error r) → step s = .next { s with agenda := rest, response := some ⟨.illegal, 0⟩ }) ∧
  (∀ (e : Event) (s : State) (d : Word), ∃ i, decode (serviceWord e s) d = .ok i)

/-- The ten assigned words decode to the operations they stand for (30_encoding.md R92; 95_test_vectors.md 2.1). -/
def Obligations.AssignedWordsDecode : Prop :=
  ∀ d : Word,
    decode 0b00010000#8 d = .ok (.edgeA false) ∧ decode 0b00010010#8 d = .ok (.edgeA true) ∧
    decode 0b00010001#8 d = .ok (.edgeB false) ∧ decode 0b00010011#8 d = .ok (.edgeB true) ∧
    decode 0b00100000#8 d = .ok .tick ∧ decode 0b00110000#8 100#32 = .ok (.init 100) ∧
    decode 0b01000000#8 d = .ok .setHome ∧ decode 0b01010000#8 d = .ok .getPosition ∧
    decode 0b01100000#8 d = .ok .getVelocity ∧ decode 0b01110000#8 d = .ok .disarm

/-! ### Steps of the agents -/

/-- A step performs the operation its word decodes to: a host word on the command port; the word the service engine builds
from a set latch, once the latch is cleared. With an empty agenda the step is that of the drawn agent step, the model's own
form of the free order (assumption 1; 60_exceptions.md R259). -/
def Obligations.StepRunsDecodedOperation : Prop :=
  (∀ (s : State) (op : OpWord) (d : Word) (rest : List AgentStep) (i : Instr), s.agenda = .host op d :: rest →
    decode op d = .ok i → i.issuer = .host → step s = exec i { s with agenda := rest }) ∧
  (∀ (s : State) (e : Event) (d : Word) (rest : List AgentStep) (i : Instr), s.agenda = .service e :: rest →
    s.pending e = true → decode (serviceWord e s) d = .ok i →
    step s = exec i (State.takeEvent e { s with agenda := rest })) ∧
  (∀ s : State, s.agenda = [] → step s = agentStep (Config.schedule s.drawn) { s with drawn := s.drawn + 1 })

/-- A host word that is reserved, an edge word or the tick word writes no register and answers ILLEGAL 0, whatever the data
word (43_host_commands.md R216). -/
def Obligations.IllegalHostCommand : Prop :=
  ∀ (s : State) (op : OpWord) (d : Word) (rest : List AgentStep), s.agenda = .host op d :: rest →
    ((∃ r, decode op d = .error r) ∨ (∃ l, decode op d = .ok (.edgeA l)) ∨ (∃ l, decode op d = .ok (.edgeB l)) ∨
      decode op d = .ok .tick) →
    step s = .next { s with agenda := rest, response := some ⟨.illegal, 0⟩ }

/-- One Clock step: time counts in every state, the sample timer only while armed, and a tick raised while one is pending is
lost (60_exceptions.md R256, R257, R258). -/
def Obligations.ClockStepCounts : Prop :=
  ∀ (s : State) (rest : List AgentStep), s.agenda = .clock :: rest →
    let wrapped := s.tickTimer.toNat + 1 = Config.block.tickPeriodUs
    (s.armed = false →
      step s = .next { s with agenda := rest, response := none, nowUs := s.nowUs + 1 }) ∧
    (s.armed = true → ¬ wrapped →
      step s = .next { s with agenda := rest, response := none, nowUs := s.nowUs + 1, tickTimer := s.tickTimer + 1 }) ∧
    (s.armed = true → wrapped →
      step s = .next { s with agenda := rest, response := none, nowUs := s.nowUs + 1, tickTimer := 0, pendTick := true })

/-- `k` Clock steps in a row while armed: the timer counts modulo the period, the tick latch is set once the period is
reached, and nothing but time changes (60_exceptions.md R257, R258, R256). -/
def Obligations.TickRaisedEveryPeriod : Prop :=
  ∀ (k : Nat) (s : State) (rest : List AgentStep), s.armed = true →
    s.tickTimer.toNat < Config.block.tickPeriodUs → s.agenda = advance k ++ rest →
    Sys2Proof.Machine.run k s = .next { s with
      agenda := rest
      response := if k = 0 then s.response else none
      nowUs := s.nowUs + BitVec.ofNat 32 k
      tickTimer := BitVec.ofNat 32 ((s.tickTimer.toNat + k) % Config.block.tickPeriodUs)
      pendTick := s.pendTick || decide (Config.block.tickPeriodUs ≤ s.tickTimer.toNat + k) }

/-- One Sensor step: the level is tracked armed or not, and a 0 to 1 change while armed raises the channel's latch
(60_exceptions.md R252). -/
def Obligations.SensorStepTracksLevel : Prop :=
  ∀ (s : State) (v : Bool) (rest : List AgentStep),
    (s.agenda = .sensor .a v :: rest →
      step s = .next { s with
        agenda := rest, response := none, lvlA := v
        pendA := if s.lvlA = false ∧ v = true ∧ s.armed = true then true else s.pendA }) ∧
    (s.agenda = .sensor .b v :: rest →
      step s = .next { s with
        agenda := rest, response := none, lvlB := v
        pendB := if s.lvlB = false ∧ v = true ∧ s.armed = true then true else s.pendB })

/-- A second rising edge on a channel whose latch is still set is lost: with one service step after them, two rising edges
leave the state that one leaves (60_exceptions.md R253). -/
def Obligations.SecondEdgeIsLost : Prop :=
  ∀ (s : State) (ch : Channel) (rest : List AgentStep), s.armed = true → s.level ch = false →
    (∃ t, step { s with agenda := .sensor ch true :: rest } = .next t ∧ t.pending (channelEvent ch) = true) ∧
    (∃ t, Sys2Proof.Machine.run 2 { s with agenda := [.sensor ch true, .service (channelEvent ch)] ++ rest } = .next t ∧
      Sys2Proof.Machine.run 4 { s with
        agenda := [.sensor ch true, .sensor ch false, .sensor ch true, .service (channelEvent ch)] ++ rest } = .next t ∧
      t.pending (channelEvent ch) = false)

/-- A service step on a set latch clears it and performs the event's operation, the level being the paired channel's now
(60_exceptions.md R260). -/
def Obligations.ServiceStepTakesEvent : Prop :=
  ∀ (s : State) (rest : List AgentStep),
    (s.agenda = .service .edgeA :: rest → s.pendA = true →
      step s = exec (.edgeA s.lvlB) { s with agenda := rest, pendA := false }) ∧
    (s.agenda = .service .edgeB :: rest → s.pendB = true →
      step s = exec (.edgeB s.lvlA) { s with agenda := rest, pendB := false }) ∧
    (s.agenda = .service .tick :: rest → s.pendTick = true →
      step s = exec .tick { s with agenda := rest, pendTick := false })

/-- The model's choice (assumption 2): a service step chosen for a clear latch, which the spec does not enable, changes no
register. -/
def Obligations.ServiceOfClearLatchIdles : Prop :=
  ∀ (s : State) (e : Event) (rest : List AgentStep), s.agenda = .service e :: rest → s.pending e = false →
    step s = .next { s with agenda := rest, response := none }

/-- The level that decides an edge's direction is the paired channel's when the event is taken: a change of it after the edge
was raised decides (60_exceptions.md R263). -/
def Obligations.DirectionUsesLevelAtService : Prop :=
  ∀ (s : State) (v : Bool) (rest : List AgentStep), s.position.toNat < s.ppr.toNat →
    (s.pendA = true → s.agenda = .sensor .b v :: .service .edgeA :: rest →
      ∃ t, Sys2Proof.Machine.run 2 s = .next t ∧
        (t.position.toNat : Int) = (s.position.toNat + (if v then 1 else -1)) % s.ppr.toNat) ∧
    (s.pendB = true → s.agenda = .sensor .a v :: .service .edgeB :: rest →
      ∃ t, Sys2Proof.Machine.run 2 s = .next t ∧
        (t.position.toNat : Int) = (s.position.toNat + (if v then -1 else 1)) % s.ppr.toNat)

/-- Any enabled step of any agent may be taken next, and a service step clears its own latch and no other (00_scope.md R7,
60_exceptions.md R259). -/
def Obligations.AnyEnabledAgentMayBeNext : Prop :=
  ∀ (s : State) (a : AgentStep) (rest : List AgentStep), Enabled a s →
    ∃ t, step { s with agenda := a :: rest } = .next t ∧ t.agenda = rest ∧ t.drawn = s.drawn ∧
      ∀ e, a = .service e → ∀ f, t.pending f = (decide (f ≠ e) && s.pending f)

/-- No step faults or is refused, in any state (60_exceptions.md R269, R270; that a service step of a clear latch idles is the
model's choice, assumption 2). -/
def Obligations.EveryStepCompletes : Prop :=
  ∀ s : State, ∃ t, step s = .next t

/-! ### Reset and invariants -/

/-- A hardware reset sets every register to its reset value (70_reset_and_hazards.md R290), and `State.reset` is that state
with an empty agenda, the model's own field (assumption 1). -/
def Obligations.ResetRegisterValues : Prop :=
  (∀ s : State,
    s.hardReset.ppr = 0 ∧ s.hardReset.position = 0 ∧ s.hardReset.speedCur = 0 ∧ s.hardReset.speedPrev = 0 ∧
    s.hardReset.pulsesPerSample = 0 ∧ s.hardReset.lastEdgeUs = 0 ∧ s.hardReset.nowUs = 0 ∧ s.hardReset.tickTimer = 0 ∧
    s.hardReset.dirVec = .ccw ∧ s.hardReset.dirChanged = false ∧ s.hardReset.fastMode = false ∧
    s.hardReset.armed = false ∧ s.hardReset.cfgError = false ∧ s.hardReset.pendA = false ∧ s.hardReset.pendB = false ∧
    s.hardReset.pendTick = false ∧ s.hardReset.lvlA = false ∧ s.hardReset.lvlB = false) ∧
  State.reset.hardReset = State.reset

/-- The invariants hold after reset (10_state.md R50, an inference the spec marks as derived). -/
def Obligations.ResetMeetsInvariants : Prop :=
  State.reset.Inv Config.block

/-- Every step of every agent keeps the invariants: "Between any two steps of a model the following hold" (10_state.md R50,
an inference the spec marks as derived). -/
def Obligations.InvariantsKept : Prop :=
  ∀ s t : State, s.Inv Config.block → step s = .next t → t.Inv Config.block

/-- Bit 31 of `position` and of `ppr` stays 0, armed or not (30_encoding.md R101, 10_state.md R33, R34). -/
def Obligations.PositionStaysBelowBit31 : Prop :=
  ∀ s t : State, s.Inv Config.block → s.position.toNat < 2 ^ 31 → s.ppr.toNat < 2 ^ 31 → step s = .next t →
    t.position.toNat < 2 ^ 31 ∧ t.ppr.toNat < 2 ^ 31

/-! ### Edges -/

/-- EDGE_A and EDGE_B on the slow path: their next state, whole (40_edge_decoder.md R121, R124, by R123 and
41_velocity_filter.md R151 to R157). It covers states with `ppr` = 0, which no run reaches; what `position` becomes there is
the model's reading (assumption 5, DEDUCED), so the statement is derived. -/
def Obligations.EdgeSlowPath : Prop :=
  ∀ (ch : Channel) (l : Bool) (s : State), s.fastMode = false →
    let i : Instr := match ch with | .a => .edgeA l | .b => .edgeB l
    let d : Int := match ch, l with | .a, false => -1 | .a, true => 1 | .b, false => 1 | .b, true => -1
    let p : Int := s.position.toNat + d
    let elapsed : Nat := (s.nowUs - s.lastEdgeUs).toNat
    let raw : Nat := min (1 * 1000000 / (if elapsed = 0 then 1 else elapsed)) (2 ^ 31 - 1)
    exec i s = .next { s with
      position := BitVec.ofInt 32 (if p < 0 then s.ppr.toNat - 1 else if p ≥ s.ppr.toNat then 0 else p)
      dirVec := if d = 1 then .ccw else .cw
      dirChanged := false
      speedPrev := s.speedCur
      speedCur := BitVec.ofNat 32 (if d = s.dirVec.toInt then (3 * raw + 5 * s.speedCur.toNat) / 8
        else (3 * raw + s.speedCur.toNat) / 4)
      lastEdgeUs := s.nowUs - Config.block.filterCostUs
      response := none }

/-- EDGE_A and EDGE_B on the fast path: their next state, whole (40_edge_decoder.md R121, R125, by R123). It covers
states with `ppr` = 0, which no run reaches; what `position` becomes there is the model's reading (assumption 5, DEDUCED), so
the statement is derived. -/
def Obligations.EdgeFastPath : Prop :=
  ∀ (ch : Channel) (l : Bool) (s : State), s.fastMode = true →
    let i : Instr := match ch with | .a => .edgeA l | .b => .edgeB l
    let d : Int := match ch, l with | .a, false => -1 | .a, true => 1 | .b, false => 1 | .b, true => -1
    let p : Int := s.position.toNat + d
    exec i s = .next { s with
      position := BitVec.ofInt 32 (if p < 0 then s.ppr.toNat - 1 else if p ≥ s.ppr.toNat then 0 else p)
      pulsesPerSample := BitVec.ofInt 32 (s.pulsesPerSample.toInt + d)
      lastEdgeUs := s.nowUs
      response := none }

/-- In either mode an edge moves an in-range position by one modulo `ppr` and leaves it in range (40_edge_decoder.md R123,
whose modulo form the spec marks as derived). -/
def Obligations.EdgeMovesPositionModuloPpr : Prop :=
  ∀ (l : Bool) (s : State), s.position.toNat < s.ppr.toNat →
    (∃ t, exec (.edgeA l) s = .next t ∧ t.position.toNat < t.ppr.toNat ∧
      (t.position.toNat : Int) = (s.position.toNat + (if l then 1 else -1)) % s.ppr.toNat) ∧
    (∃ t, exec (.edgeB l) s = .next t ∧ t.position.toNat < t.ppr.toNat ∧
      (t.position.toNat : Int) = (s.position.toNat + (if l then -1 else 1)) % s.ppr.toNat)

/-- After a slow-path edge and `k` microseconds without one, the measured interval is `k + FILTER_COST_US` modulo 2^32
(70_reset_and_hazards.md R304, R306, inferences the spec marks as derived). -/
def Obligations.SlowEdgeCostCompensation : Prop :=
  ∀ (k : Nat) (l : Bool) (s : State) (rest : List AgentStep), s.fastMode = false → s.agenda = advance k ++ rest →
    (∃ t u, exec (.edgeA l) s = .next t ∧ Sys2Proof.Machine.run k t = .next u ∧
      u.elapsed = (k + Config.block.filterCostUs.toNat) % 2 ^ 32) ∧
    (∃ t u, exec (.edgeB l) s = .next t ∧ Sys2Proof.Machine.run k t = .next u ∧
      u.elapsed = (k + Config.block.filterCostUs.toNat) % 2 ^ 32)

/-- `k` Clock steps, armed or not, add `k` to the measured interval modulo 2^32: a long silence is seen aliased
(70_reset_and_hazards.md R306, an inference the spec marks as derived). -/
def Obligations.SilenceMeasuredModulo : Prop :=
  ∀ (k : Nat) (s : State) (rest : List AgentStep), s.agenda = advance k ++ rest →
    ∃ t, Sys2Proof.Machine.run k s = .next t ∧ t.elapsed = (s.elapsed + k) % 2 ^ 32 ∧ t.lastEdgeUs = s.lastEdgeUs

/-! ### The velocity filter -/

/-- UpdateSpeed, for any sample and period: shift, the formula that `dir_changed` selects, clear (41_velocity_filter.md R153,
R154, R156). -/
def Obligations.UpdateSpeedFormulas : Prop :=
  ∀ (samples period : Nat) (s : State),
    let raw : Nat := min (samples * 1000000 / (if period = 0 then 1 else period)) (2 ^ 31 - 1)
    s.updateSpeed samples period = { s with
      speedPrev := s.speedCur
      speedCur := BitVec.ofNat 32 (if s.dirChanged = true then (3 * raw + s.speedCur.toNat) / 4
        else (3 * raw + 5 * s.speedCur.toNat) / 8)
      dirChanged := false }

/-- The filter's output lies between the raw sample and the previous output (41_velocity_filter.md R158, an inference the spec
marks as derived). -/
def Obligations.FilterOutputBounds : Prop :=
  ∀ (samples period : Nat) (s : State), s.speedCur.toNat ≤ 2 ^ 31 - 1 →
    let raw : Nat := min (samples * 1000000 / (if period = 0 then 1 else period)) (2 ^ 31 - 1)
    let t := s.updateSpeed samples period
    t.speedPrev = s.speedCur ∧ min raw t.speedPrev.toNat ≤ t.speedCur.toNat ∧
      t.speedCur.toNat ≤ max raw t.speedPrev.toNat ∧ t.speedCur.toNat ≤ 2 ^ 31 - 1

/-- Under a constant raw sample and no reversal the distance to it never grows; from above the output reaches it, from below
it settles at most 2 short of it (41_velocity_filter.md R160, an inference the spec marks as derived). -/
def Obligations.FilterConverges : Prop :=
  ∀ (samples period : Nat) (s : State), s.dirChanged = false → s.speedCur.toNat ≤ 2 ^ 31 - 1 →
    let raw : Nat := min (samples * 1000000 / (if period = 0 then 1 else period)) (2 ^ 31 - 1)
    let out : Nat → Nat := fun m => ((State.updateSpeed samples period)^[m] s).speedCur.toNat
    (∀ m, ((out (m + 1) : Int) - raw).natAbs ≤ ((out m : Int) - raw).natAbs) ∧
    ∃ k, ∀ m, k ≤ m →
      (raw ≤ s.speedCur.toNat → out m = raw) ∧
      (s.speedCur.toNat < raw → out m = out k ∧ out m ≤ raw ∧ raw ≤ out m + 2)

/-- The reversal formula lands at least as close to the raw sample as the normal one, on the same side of it
(41_velocity_filter.md R161, an inference the spec marks as derived). -/
def Obligations.ReversalAtLeastAsClose : Prop :=
  ∀ (samples period : Nat) (s : State), s.speedCur.toNat ≤ 2 ^ 31 - 1 →
    let raw : Nat := min (samples * 1000000 / (if period = 0 then 1 else period)) (2 ^ 31 - 1)
    let rev := (State.updateSpeed samples period { s with dirChanged := true }).speedCur.toNat
    let nor := (State.updateSpeed samples period { s with dirChanged := false }).speedCur.toNat
    (raw ≤ s.speedCur.toNat → raw ≤ rev ∧ rev ≤ nor) ∧ (s.speedCur.toNat ≤ raw → nor ≤ rev ∧ rev ≤ raw)

/-! ### TICK -/

/-- TICK in fast mode: its next state, whole (42_sample_clock.md R181). -/
def Obligations.TickFastMode : Prop :=
  ∀ s : State, s.fastMode = true →
    let d : Int := if s.pulsesPerSample.toInt ≥ 0 then 1 else -1
    let raw : Nat := min (s.pulsesPerSample.toInt.natAbs * 1000000 / Config.block.tickPeriodUs) (2 ^ 31 - 1)
    let speed : Nat := if d = s.dirVec.toInt then (3 * raw + 5 * s.speedCur.toNat) / 8
      else (3 * raw + s.speedCur.toNat) / 4
    exec .tick s = .next { s with
      dirVec := if d = 1 then .ccw else .cw
      dirChanged := false
      speedPrev := s.speedCur
      speedCur := BitVec.ofNat 32 speed
      pulsesPerSample := 0
      fastMode := decide (speed > Config.block.threshold)
      response := none }

/-- TICK in slow mode: the stall check and its action, then as in fast mode; its next state, whole (42_sample_clock.md R183,
R184, R185). -/
def Obligations.TickSlowMode : Prop :=
  ∀ s : State, s.fastMode = false →
    let elapsed : Nat := (s.nowUs - s.lastEdgeUs).toNat
    let stall : Prop := s.speedCur.toNat ≤ Config.block.threshold ∧
      elapsed > (Config.block.threshold - s.speedCur.toNat) * Config.block.tickPeriodUs / 2
    (stall → exec .tick s = .next { s with
      speedPrev := s.speedCur, speedCur := 0, pulsesPerSample := 0, fastMode := false, response := none }) ∧
    (¬ stall → exec .tick s = .next { s with
      pulsesPerSample := 0, fastMode := decide (s.speedCur.toNat > Config.block.threshold), response := none })

/-- A fast-mode TICK with no pulses records CCW; after CW that is a reversal, and the speed falls to a quarter
(42_sample_clock.md R182, an inference the spec marks as derived). -/
def Obligations.TickWithoutPulsesRecordsCcw : Prop :=
  ∀ s : State, s.fastMode = true → s.pulsesPerSample = 0 → s.dirVec = .cw →
    ∃ t, exec .tick s = .next t ∧ t.dirVec = .ccw ∧ t.speedPrev = s.speedCur ∧
      t.speedCur.toNat = s.speedCur.toNat / 4

/-- At speed 0 in slow mode a TICK, stalled or not, leaves speed 0 and slow mode, and GET_VELOCITY then answers 0
(42_sample_clock.md R191, an inference the spec marks as derived). -/
def Obligations.StallScenario : Prop :=
  ∀ s : State, s.fastMode = false → s.speedCur = 0 →
    ∃ t u, exec .tick s = .next t ∧ t.speedCur = 0 ∧ t.fastMode = false ∧
      exec .getVelocity t = .next u ∧ u.response = some ⟨.ok, 0⟩

/-- Once the speed is 0 in slow mode, it stays so and GET_VELOCITY answers 0 until an edge is served, whatever other steps
come between (42_sample_clock.md R192, an inference the spec marks as derived). -/
def Obligations.ZeroSpeedHoldsUntilEdge : Prop :=
  ∀ (mid rest : List AgentStep) (d : Word) (s : State), s.fastMode = false → s.speedCur = 0 →
    (∀ a ∈ mid, isEdgeService a = false) → s.agenda = mid ++ .host 0x60#8 d :: rest →
    ∃ t, Sys2Proof.Machine.run (mid.length + 1) s = .next t ∧ t.fastMode = false ∧ t.speedCur = 0 ∧
      t.response = some ⟨.ok, 0⟩

/-- Every TICK, in either mode, completes with an empty accumulator and with the mode that its final speed selects
(42_sample_clock.md R186, R187). -/
def Obligations.TickEndsInSelectedMode : Prop :=
  ∀ s : State, ∃ t, exec .tick s = .next t ∧ t.pulsesPerSample = 0 ∧
    (t.fastMode = true ↔ t.speedCur.toNat > Config.block.threshold)

/-! ### Host commands -/

/-- INIT as an operation and on the command port: a legal count configures and arms the block, an illegal one disarms it with
CONFIG_ERROR; its next state, whole; with a count of 1 an edge leaves the position 0 (43_host_commands.md R211). -/
def Obligations.InitCommand : Prop :=
  (∀ (n : Nat) (s : State), 1 ≤ n → n ≤ 2 ^ 31 - 1 →
    exec (.init n) s = .next { s with
      ppr := BitVec.ofNat 32 n, position := 0, dirVec := .ccw, dirChanged := false, speedCur := 0, speedPrev := 0
      pulsesPerSample := 0, lastEdgeUs := s.nowUs, fastMode := false, pendA := false, pendB := false, pendTick := false
      tickTimer := 0, cfgError := false, armed := true, response := some ⟨.ok, 0⟩ }) ∧
  (∀ (n : Nat) (s : State), n = 0 ∨ 2 ^ 31 - 1 < n →
    exec (.init n) s = .next { s with
      armed := false, pendA := false, pendB := false, pendTick := false, cfgError := true
      response := some ⟨.configError, 0⟩ }) ∧
  (∀ (s : State) (d : Word) (rest : List AgentStep), s.agenda = .host 0x30#8 d :: rest →
    step s = exec (.init d.toNat) { s with agenda := rest }) ∧
  (∀ (s : State) (ch : Channel) (l : Bool), s.ppr = 1 → s.position = 0 →
    ∃ t, exec (.edge ch l) s = .next t ∧ t.ppr = 1 ∧ t.position = 0)

/-- SET_HOME as an operation and on the command port: its next state, whole, armed or not; an edge served after it takes the
position from 0 to 1 or to `ppr - 1` (43_host_commands.md R212). -/
def Obligations.SetHomeCommand : Prop :=
  (∀ s : State, exec .setHome s = .next { s with position := 0, response := some ⟨.ok, 0⟩ }) ∧
  (∀ (s : State) (d : Word) (rest : List AgentStep), s.agenda = .host 0x40#8 d :: rest →
    step s = .next { s with agenda := rest, position := 0, response := some ⟨.ok, 0⟩ }) ∧
  (∀ (s : State) (ch : Channel) (l : Bool), 1 ≤ s.ppr.toNat →
    ∃ t u, exec .setHome s = .next t ∧ exec (.edge ch l) t = .next u ∧
      (u.position.toNat = 1 ∨ u.position.toNat = s.ppr.toNat - 1))

/-- GET_POSITION as an operation and on the command port: its next state, whole; the range of its answer while armed, and its
answers between reset and the first INIT and after DISARM (43_host_commands.md R213). -/
def Obligations.GetPositionCommand : Prop :=
  (∀ s : State, exec .getPosition s = .next { s with response := some ⟨.ok, s.position⟩ }) ∧
  (∀ (s : State) (d : Word) (rest : List AgentStep), s.agenda = .host 0x50#8 d :: rest →
    step s = .next { s with agenda := rest, response := some ⟨.ok, s.position⟩ }) ∧
  (∀ s : State, s.Inv Config.block → s.armed = true →
    ∃ t v, exec .getPosition s = .next t ∧ t.response = some ⟨.ok, v⟩ ∧ v.toNat < s.ppr.toNat) ∧
  (∀ (mid rest : List AgentStep) (d : Word) (n : Nat), (∀ a ∈ mid, isInitCommand a = false) →
    ∃ t, Sys2Proof.Machine.run (mid.length + 1) { State.reset with agenda := mid ++ .host 0x50#8 d :: rest, drawn := n } = .next t ∧
      t.response = some ⟨.ok, 0⟩) ∧
  (∀ s : State, ∃ t u, exec .disarm s = .next t ∧ exec .getPosition t = .next u ∧ u.response = some ⟨.ok, s.position⟩)

/-- GET_VELOCITY as an operation and on the command port: its next state, whole, in two's complement; 0x80000000 is never
answered while the speed is in range (43_host_commands.md R214). -/
def Obligations.GetVelocityCommand : Prop :=
  (∀ s : State, exec .getVelocity s = .next { s with
    response := some ⟨.ok, match s.dirVec with | .ccw => s.speedCur | .cw => -s.speedCur⟩ }) ∧
  (∀ (s : State) (d : Word) (rest : List AgentStep), s.agenda = .host 0x60#8 d :: rest →
    step s = .next { s with
      agenda := rest, response := some ⟨.ok, match s.dirVec with | .ccw => s.speedCur | .cw => -s.speedCur⟩ }) ∧
  (∀ s : State, s.speedCur.toNat ≤ 2 ^ 31 - 1 →
    (match s.dirVec with | .ccw => s.speedCur | .cw => -s.speedCur) ≠ 0x80000000#32)

/-- DISARM as an operation and on the command port: its next state, whole (43_host_commands.md R215). -/
def Obligations.DisarmCommand : Prop :=
  (∀ s : State, exec .disarm s = .next { s with
    armed := false, pendA := false, pendB := false, pendTick := false, response := some ⟨.ok, 0⟩ }) ∧
  (∀ (s : State) (d : Word) (rest : List AgentStep), s.agenda = .host 0x70#8 d :: rest →
    step s = .next { s with
      agenda := rest, armed := false, pendA := false, pendB := false, pendTick := false, response := some ⟨.ok, 0⟩ })

/-- The signed velocity is the speed times the recorded direction, in range, and is recovered exactly from GET_VELOCITY's data
word (41_velocity_filter.md R165). -/
def Obligations.VelocityReadoutExact : Prop :=
  ∀ s : State, s.speedCur.toNat ≤ 2 ^ 31 - 1 →
    ∃ t v, exec .getVelocity s = .next t ∧ t.response = some ⟨.ok, v⟩ ∧
      v.toInt = s.speedCur.toNat * (match s.dirVec with | .ccw => 1 | .cw => -1) ∧
      -(2 ^ 31 - 1) ≤ v.toInt ∧ v.toInt ≤ 2 ^ 31 - 1

/-- Every host command gets exactly one response, no other step gets one; its data word is the result of a read and 0 for
every other command and every status but OK (30_encoding.md R97). -/
def Obligations.OneResponsePerHostCommand : Prop :=
  ∀ s t : State, step s = .next t →
    (∀ op d, s.nextAgent = .host op d → ∃ r, t.response = some r ∧ (r.status ≠ .ok → r.dataOut = 0) ∧
      (op = 0x50#8 → r = ⟨.ok, s.position⟩) ∧
      (op = 0x60#8 → r = ⟨.ok, BitVec.ofInt 32 (s.speedCur.toNat * s.dirVec.toInt)⟩) ∧
      (op ≠ 0x50#8 → op ≠ 0x60#8 → r.dataOut = 0)) ∧
    ((∀ op d, s.nextAgent ≠ .host op d) → t.response = none)

/-- The status codes, of which 0b11 is none (30_encoding.md R98). -/
def Obligations.StatusCodes : Prop :=
  Status.ok.code = 0b00#2 ∧ Status.configError.code = 0b01#2 ∧ Status.illegal.code = 0b10#2 ∧
    ∀ st : Status, st.code ≠ 0b11#2

/-- Two reads in a row answer the same word and leave every register as it was (20_memory.md R74). -/
def Obligations.ReadsAreIdempotent : Prop :=
  ∀ (s : State) (op : OpWord) (d d' : Word) (rest : List AgentStep), op = 0x50#8 ∨ op = 0x60#8 →
    s.agenda = .host op d :: .host op d' :: rest →
    ∃ t u r, step s = .next t ∧ step t = .next u ∧ t = { s with agenda := .host op d' :: rest, response := some r } ∧
      u = { s with agenda := rest, response := some r }

/-- Home reset: SET_HOME, any steps but service of an edge, then GET_POSITION answers 0 (43_host_commands.md R217, an
inference the spec marks as derived). -/
def Obligations.HomeReset : Prop :=
  ∀ (mid rest : List AgentStep) (d d' : Word) (s : State), (∀ a ∈ mid, isEdgeService a = false) →
    s.agenda = .host 0x40#8 d :: mid ++ .host 0x50#8 d' :: rest →
    ∃ t, Sys2Proof.Machine.run (mid.length + 2) s = .next t ∧ t.position = 0 ∧ t.response = some ⟨.ok, 0⟩

/-! ### Rules about the whole machine -/

/-- A disarmed block with clear latches stays so through any steps without INIT: no edge is counted, no tick raised, the timer
stands and every estimator register keeps its value, `position` but for SET_HOME (60_exceptions.md R254, R280;
70_reset_and_hazards.md R291). -/
def Obligations.DisarmedStaysQuiet : Prop :=
  ∀ (mid rest : List AgentStep) (s : State), s.armed = false → (∀ e, s.pending e = false) →
    (∀ a ∈ mid, isInitCommand a = false) → s.agenda = mid ++ rest →
    ∃ t, Sys2Proof.Machine.run mid.length s = .next t ∧ t.armed = false ∧ (∀ e, t.pending e = false) ∧
      t.tickTimer = s.tickTimer ∧ t.ppr = s.ppr ∧ (t.position = s.position ∨ t.position = 0) ∧
      t.dirVec = s.dirVec ∧ t.dirChanged = s.dirChanged ∧ t.speedCur = s.speedCur ∧ t.speedPrev = s.speedPrev ∧
      t.pulsesPerSample = s.pulsesPerSample ∧ t.lastEdgeUs = s.lastEdgeUs ∧ t.fastMode = s.fastMode ∧
      t.cfgError = s.cfgError

/-- `speed_prev` and `cfg_error` affect no later result: two states that differ in nothing else answer every run of steps
alike and still differ in nothing else after it (42_sample_clock.md R192, an inference the spec marks as derived;
10_state.md R43). -/
def Obligations.HiddenRegistersUnobservable : Prop :=
  ∀ (k : Nat) (s s' : State), s.SameButHidden s' →
    ∃ t t', Sys2Proof.Machine.run k s = .next t ∧ Sys2Proof.Machine.run k s' = .next t' ∧ t.SameButHidden t' ∧
      t.observed = t'.observed

/-- Each register changes only in the steps that the register table names as its writers (10_state.md R32; 60_exceptions.md
R275). -/
def Obligations.RegistersChangeOnlyByTheirWriters : Prop :=
  ∀ s t : State, step s = .next t →
    let init : Prop := isInitCommand s.nextAgent = true
    let edge : Prop := (s.nextAgent = .service .edgeA ∧ s.pendA = true) ∨ (s.nextAgent = .service .edgeB ∧ s.pendB = true)
    let tick : Prop := s.nextAgent = .service .tick ∧ s.pendTick = true
    (t.ppr ≠ s.ppr → init) ∧
    (t.position ≠ s.position → edge ∨ init ∨ ∃ d, s.nextAgent = .host 0x40#8 d) ∧
    (t.dirVec ≠ s.dirVec → (edge ∧ s.fastMode = false) ∨ (tick ∧ s.fastMode = true) ∨ init) ∧
    (t.dirChanged ≠ s.dirChanged → (edge ∧ s.fastMode = false) ∨ (tick ∧ s.fastMode = true) ∨ init) ∧
    (t.speedPrev ≠ s.speedPrev → (edge ∧ s.fastMode = false) ∨ tick ∨ init) ∧
    (t.speedCur ≠ s.speedCur → (edge ∧ s.fastMode = false) ∨ tick ∨ init) ∧
    (t.pulsesPerSample ≠ s.pulsesPerSample → (edge ∧ s.fastMode = true) ∨ tick ∨ init) ∧
    (t.lastEdgeUs ≠ s.lastEdgeUs → edge ∨ init) ∧
    (t.fastMode ≠ s.fastMode → tick ∨ init) ∧
    (t.armed ≠ s.armed → init ∨ ∃ d, s.nextAgent = .host 0x70#8 d) ∧
    (t.cfgError ≠ s.cfgError → init) ∧
    (t.nowUs ≠ s.nowUs → s.nextAgent = .clock) ∧
    (t.tickTimer ≠ s.tickTimer → s.nextAgent = .clock ∨ init) ∧
    (t.pendA ≠ s.pendA → edge ∨ init ∨ (∃ d, s.nextAgent = .host 0x70#8 d) ∨ s.nextAgent = .sensor .a true) ∧
    (t.pendB ≠ s.pendB → edge ∨ init ∨ (∃ d, s.nextAgent = .host 0x70#8 d) ∨ s.nextAgent = .sensor .b true) ∧
    (t.pendTick ≠ s.pendTick → tick ∨ init ∨ (∃ d, s.nextAgent = .host 0x70#8 d) ∨ s.nextAgent = .clock) ∧
    (t.lvlA ≠ s.lvlA → ∃ v, s.nextAgent = .sensor .a v) ∧
    (t.lvlB ≠ s.lvlB → ∃ v, s.nextAgent = .sensor .b v)

/-- Under weak fairness no latch stays set for ever: from any point of an execution on, each latch is found clear
(60_exceptions.md R261, R260). -/
def Obligations.FairServiceClearsLatches : Prop :=
  ∀ x : Execution, x.WeaklyFair → ∀ (e : Event) (n : Nat), ∃ m, n ≤ m ∧ (x.st m).pending e = false
end

