-- ==== Sys2Proof/Laws/State.lean ====
section
/-! SUPPORT. What each named update writes and leaves alone: one lemma for each field and each update. -/

namespace Sys2Proof.Machine

@[simp] theorem State.silent_ppr (s : State) : s.silent.ppr = s.ppr := rfl
@[simp] theorem State.silent_position (s : State) : s.silent.position = s.position := rfl
@[simp] theorem State.silent_dirVec (s : State) : s.silent.dirVec = s.dirVec := rfl
@[simp] theorem State.silent_dirChanged (s : State) : s.silent.dirChanged = s.dirChanged := rfl
@[simp] theorem State.silent_speedCur (s : State) : s.silent.speedCur = s.speedCur := rfl
@[simp] theorem State.silent_speedPrev (s : State) : s.silent.speedPrev = s.speedPrev := rfl
@[simp] theorem State.silent_pulsesPerSample (s : State) : s.silent.pulsesPerSample = s.pulsesPerSample := rfl
@[simp] theorem State.silent_lastEdgeUs (s : State) : s.silent.lastEdgeUs = s.lastEdgeUs := rfl
@[simp] theorem State.silent_fastMode (s : State) : s.silent.fastMode = s.fastMode := rfl
@[simp] theorem State.silent_armed (s : State) : s.silent.armed = s.armed := rfl
@[simp] theorem State.silent_cfgError (s : State) : s.silent.cfgError = s.cfgError := rfl
@[simp] theorem State.silent_nowUs (s : State) : s.silent.nowUs = s.nowUs := rfl
@[simp] theorem State.silent_tickTimer (s : State) : s.silent.tickTimer = s.tickTimer := rfl
@[simp] theorem State.silent_pendA (s : State) : s.silent.pendA = s.pendA := rfl
@[simp] theorem State.silent_pendB (s : State) : s.silent.pendB = s.pendB := rfl
@[simp] theorem State.silent_pendTick (s : State) : s.silent.pendTick = s.pendTick := rfl
@[simp] theorem State.silent_lvlA (s : State) : s.silent.lvlA = s.lvlA := rfl
@[simp] theorem State.silent_lvlB (s : State) : s.silent.lvlB = s.lvlB := rfl
@[simp] theorem State.silent_response (s : State) : s.silent.response = none := rfl
@[simp] theorem State.silent_agenda (s : State) : s.silent.agenda = s.agenda := rfl
@[simp] theorem State.silent_drawn (s : State) : s.silent.drawn = s.drawn := rfl

@[simp] theorem State.answer_ppr (s : State) (v : Word) : (s.answer v).ppr = s.ppr := rfl
@[simp] theorem State.answer_position (s : State) (v : Word) : (s.answer v).position = s.position := rfl
@[simp] theorem State.answer_dirVec (s : State) (v : Word) : (s.answer v).dirVec = s.dirVec := rfl
@[simp] theorem State.answer_dirChanged (s : State) (v : Word) : (s.answer v).dirChanged = s.dirChanged := rfl
@[simp] theorem State.answer_speedCur (s : State) (v : Word) : (s.answer v).speedCur = s.speedCur := rfl
@[simp] theorem State.answer_speedPrev (s : State) (v : Word) : (s.answer v).speedPrev = s.speedPrev := rfl
@[simp] theorem State.answer_pulsesPerSample (s : State) (v : Word) : (s.answer v).pulsesPerSample = s.pulsesPerSample := rfl
@[simp] theorem State.answer_lastEdgeUs (s : State) (v : Word) : (s.answer v).lastEdgeUs = s.lastEdgeUs := rfl
@[simp] theorem State.answer_fastMode (s : State) (v : Word) : (s.answer v).fastMode = s.fastMode := rfl
@[simp] theorem State.answer_armed (s : State) (v : Word) : (s.answer v).armed = s.armed := rfl
@[simp] theorem State.answer_cfgError (s : State) (v : Word) : (s.answer v).cfgError = s.cfgError := rfl
@[simp] theorem State.answer_nowUs (s : State) (v : Word) : (s.answer v).nowUs = s.nowUs := rfl
@[simp] theorem State.answer_tickTimer (s : State) (v : Word) : (s.answer v).tickTimer = s.tickTimer := rfl
@[simp] theorem State.answer_pendA (s : State) (v : Word) : (s.answer v).pendA = s.pendA := rfl
@[simp] theorem State.answer_pendB (s : State) (v : Word) : (s.answer v).pendB = s.pendB := rfl
@[simp] theorem State.answer_pendTick (s : State) (v : Word) : (s.answer v).pendTick = s.pendTick := rfl
@[simp] theorem State.answer_lvlA (s : State) (v : Word) : (s.answer v).lvlA = s.lvlA := rfl
@[simp] theorem State.answer_lvlB (s : State) (v : Word) : (s.answer v).lvlB = s.lvlB := rfl
@[simp] theorem State.answer_response (s : State) (v : Word) : (s.answer v).response = some ⟨.ok, v⟩ := rfl
@[simp] theorem State.answer_agenda (s : State) (v : Word) : (s.answer v).agenda = s.agenda := rfl
@[simp] theorem State.answer_drawn (s : State) (v : Word) : (s.answer v).drawn = s.drawn := rfl

@[simp] theorem State.raise_ppr (s : State) (st : Status) : (s.raise st).ppr = s.ppr := rfl
@[simp] theorem State.raise_position (s : State) (st : Status) : (s.raise st).position = s.position := rfl
@[simp] theorem State.raise_dirVec (s : State) (st : Status) : (s.raise st).dirVec = s.dirVec := rfl
@[simp] theorem State.raise_dirChanged (s : State) (st : Status) : (s.raise st).dirChanged = s.dirChanged := rfl
@[simp] theorem State.raise_speedCur (s : State) (st : Status) : (s.raise st).speedCur = s.speedCur := rfl
@[simp] theorem State.raise_speedPrev (s : State) (st : Status) : (s.raise st).speedPrev = s.speedPrev := rfl
@[simp] theorem State.raise_pulsesPerSample (s : State) (st : Status) : (s.raise st).pulsesPerSample = s.pulsesPerSample := rfl
@[simp] theorem State.raise_lastEdgeUs (s : State) (st : Status) : (s.raise st).lastEdgeUs = s.lastEdgeUs := rfl
@[simp] theorem State.raise_fastMode (s : State) (st : Status) : (s.raise st).fastMode = s.fastMode := rfl
@[simp] theorem State.raise_armed (s : State) (st : Status) : (s.raise st).armed = s.armed := rfl
@[simp] theorem State.raise_cfgError (s : State) (st : Status) : (s.raise st).cfgError = s.cfgError := rfl
@[simp] theorem State.raise_nowUs (s : State) (st : Status) : (s.raise st).nowUs = s.nowUs := rfl
@[simp] theorem State.raise_tickTimer (s : State) (st : Status) : (s.raise st).tickTimer = s.tickTimer := rfl
@[simp] theorem State.raise_pendA (s : State) (st : Status) : (s.raise st).pendA = s.pendA := rfl
@[simp] theorem State.raise_pendB (s : State) (st : Status) : (s.raise st).pendB = s.pendB := rfl
@[simp] theorem State.raise_pendTick (s : State) (st : Status) : (s.raise st).pendTick = s.pendTick := rfl
@[simp] theorem State.raise_lvlA (s : State) (st : Status) : (s.raise st).lvlA = s.lvlA := rfl
@[simp] theorem State.raise_lvlB (s : State) (st : Status) : (s.raise st).lvlB = s.lvlB := rfl
@[simp] theorem State.raise_response (s : State) (st : Status) : (s.raise st).response = some ⟨st, 0⟩ := rfl
@[simp] theorem State.raise_agenda (s : State) (st : Status) : (s.raise st).agenda = s.agenda := rfl
@[simp] theorem State.raise_drawn (s : State) (st : Status) : (s.raise st).drawn = s.drawn := rfl

@[simp] theorem State.raiseEvent_edgeA_ppr (s : State) : (s.raiseEvent .edgeA).ppr = s.ppr := rfl
@[simp] theorem State.raiseEvent_edgeA_position (s : State) : (s.raiseEvent .edgeA).position = s.position := rfl
@[simp] theorem State.raiseEvent_edgeA_dirVec (s : State) : (s.raiseEvent .edgeA).dirVec = s.dirVec := rfl
@[simp] theorem State.raiseEvent_edgeA_dirChanged (s : State) : (s.raiseEvent .edgeA).dirChanged = s.dirChanged := rfl
@[simp] theorem State.raiseEvent_edgeA_speedCur (s : State) : (s.raiseEvent .edgeA).speedCur = s.speedCur := rfl
@[simp] theorem State.raiseEvent_edgeA_speedPrev (s : State) : (s.raiseEvent .edgeA).speedPrev = s.speedPrev := rfl
@[simp] theorem State.raiseEvent_edgeA_pulsesPerSample (s : State) : (s.raiseEvent .edgeA).pulsesPerSample = s.pulsesPerSample := rfl
@[simp] theorem State.raiseEvent_edgeA_lastEdgeUs (s : State) : (s.raiseEvent .edgeA).lastEdgeUs = s.lastEdgeUs := rfl
@[simp] theorem State.raiseEvent_edgeA_fastMode (s : State) : (s.raiseEvent .edgeA).fastMode = s.fastMode := rfl
@[simp] theorem State.raiseEvent_edgeA_armed (s : State) : (s.raiseEvent .edgeA).armed = s.armed := rfl
@[simp] theorem State.raiseEvent_edgeA_cfgError (s : State) : (s.raiseEvent .edgeA).cfgError = s.cfgError := rfl
@[simp] theorem State.raiseEvent_edgeA_nowUs (s : State) : (s.raiseEvent .edgeA).nowUs = s.nowUs := rfl
@[simp] theorem State.raiseEvent_edgeA_tickTimer (s : State) : (s.raiseEvent .edgeA).tickTimer = s.tickTimer := rfl
@[simp] theorem State.raiseEvent_edgeA_pendA (s : State) : (s.raiseEvent .edgeA).pendA = true := rfl
@[simp] theorem State.raiseEvent_edgeA_pendB (s : State) : (s.raiseEvent .edgeA).pendB = s.pendB := rfl
@[simp] theorem State.raiseEvent_edgeA_pendTick (s : State) : (s.raiseEvent .edgeA).pendTick = s.pendTick := rfl
@[simp] theorem State.raiseEvent_edgeA_lvlA (s : State) : (s.raiseEvent .edgeA).lvlA = s.lvlA := rfl
@[simp] theorem State.raiseEvent_edgeA_lvlB (s : State) : (s.raiseEvent .edgeA).lvlB = s.lvlB := rfl
@[simp] theorem State.raiseEvent_edgeA_response (s : State) : (s.raiseEvent .edgeA).response = s.response := rfl
@[simp] theorem State.raiseEvent_edgeA_agenda (s : State) : (s.raiseEvent .edgeA).agenda = s.agenda := rfl
@[simp] theorem State.raiseEvent_edgeA_drawn (s : State) : (s.raiseEvent .edgeA).drawn = s.drawn := rfl

@[simp] theorem State.raiseEvent_edgeB_ppr (s : State) : (s.raiseEvent .edgeB).ppr = s.ppr := rfl
@[simp] theorem State.raiseEvent_edgeB_position (s : State) : (s.raiseEvent .edgeB).position = s.position := rfl
@[simp] theorem State.raiseEvent_edgeB_dirVec (s : State) : (s.raiseEvent .edgeB).dirVec = s.dirVec := rfl
@[simp] theorem State.raiseEvent_edgeB_dirChanged (s : State) : (s.raiseEvent .edgeB).dirChanged = s.dirChanged := rfl
@[simp] theorem State.raiseEvent_edgeB_speedCur (s : State) : (s.raiseEvent .edgeB).speedCur = s.speedCur := rfl
@[simp] theorem State.raiseEvent_edgeB_speedPrev (s : State) : (s.raiseEvent .edgeB).speedPrev = s.speedPrev := rfl
@[simp] theorem State.raiseEvent_edgeB_pulsesPerSample (s : State) : (s.raiseEvent .edgeB).pulsesPerSample = s.pulsesPerSample := rfl
@[simp] theorem State.raiseEvent_edgeB_lastEdgeUs (s : State) : (s.raiseEvent .edgeB).lastEdgeUs = s.lastEdgeUs := rfl
@[simp] theorem State.raiseEvent_edgeB_fastMode (s : State) : (s.raiseEvent .edgeB).fastMode = s.fastMode := rfl
@[simp] theorem State.raiseEvent_edgeB_armed (s : State) : (s.raiseEvent .edgeB).armed = s.armed := rfl
@[simp] theorem State.raiseEvent_edgeB_cfgError (s : State) : (s.raiseEvent .edgeB).cfgError = s.cfgError := rfl
@[simp] theorem State.raiseEvent_edgeB_nowUs (s : State) : (s.raiseEvent .edgeB).nowUs = s.nowUs := rfl
@[simp] theorem State.raiseEvent_edgeB_tickTimer (s : State) : (s.raiseEvent .edgeB).tickTimer = s.tickTimer := rfl
@[simp] theorem State.raiseEvent_edgeB_pendA (s : State) : (s.raiseEvent .edgeB).pendA = s.pendA := rfl
@[simp] theorem State.raiseEvent_edgeB_pendB (s : State) : (s.raiseEvent .edgeB).pendB = true := rfl
@[simp] theorem State.raiseEvent_edgeB_pendTick (s : State) : (s.raiseEvent .edgeB).pendTick = s.pendTick := rfl
@[simp] theorem State.raiseEvent_edgeB_lvlA (s : State) : (s.raiseEvent .edgeB).lvlA = s.lvlA := rfl
@[simp] theorem State.raiseEvent_edgeB_lvlB (s : State) : (s.raiseEvent .edgeB).lvlB = s.lvlB := rfl
@[simp] theorem State.raiseEvent_edgeB_response (s : State) : (s.raiseEvent .edgeB).response = s.response := rfl
@[simp] theorem State.raiseEvent_edgeB_agenda (s : State) : (s.raiseEvent .edgeB).agenda = s.agenda := rfl
@[simp] theorem State.raiseEvent_edgeB_drawn (s : State) : (s.raiseEvent .edgeB).drawn = s.drawn := rfl

@[simp] theorem State.raiseEvent_tick_ppr (s : State) : (s.raiseEvent .tick).ppr = s.ppr := rfl
@[simp] theorem State.raiseEvent_tick_position (s : State) : (s.raiseEvent .tick).position = s.position := rfl
@[simp] theorem State.raiseEvent_tick_dirVec (s : State) : (s.raiseEvent .tick).dirVec = s.dirVec := rfl
@[simp] theorem State.raiseEvent_tick_dirChanged (s : State) : (s.raiseEvent .tick).dirChanged = s.dirChanged := rfl
@[simp] theorem State.raiseEvent_tick_speedCur (s : State) : (s.raiseEvent .tick).speedCur = s.speedCur := rfl
@[simp] theorem State.raiseEvent_tick_speedPrev (s : State) : (s.raiseEvent .tick).speedPrev = s.speedPrev := rfl
@[simp] theorem State.raiseEvent_tick_pulsesPerSample (s : State) : (s.raiseEvent .tick).pulsesPerSample = s.pulsesPerSample := rfl
@[simp] theorem State.raiseEvent_tick_lastEdgeUs (s : State) : (s.raiseEvent .tick).lastEdgeUs = s.lastEdgeUs := rfl
@[simp] theorem State.raiseEvent_tick_fastMode (s : State) : (s.raiseEvent .tick).fastMode = s.fastMode := rfl
@[simp] theorem State.raiseEvent_tick_armed (s : State) : (s.raiseEvent .tick).armed = s.armed := rfl
@[simp] theorem State.raiseEvent_tick_cfgError (s : State) : (s.raiseEvent .tick).cfgError = s.cfgError := rfl
@[simp] theorem State.raiseEvent_tick_nowUs (s : State) : (s.raiseEvent .tick).nowUs = s.nowUs := rfl
@[simp] theorem State.raiseEvent_tick_tickTimer (s : State) : (s.raiseEvent .tick).tickTimer = s.tickTimer := rfl
@[simp] theorem State.raiseEvent_tick_pendA (s : State) : (s.raiseEvent .tick).pendA = s.pendA := rfl
@[simp] theorem State.raiseEvent_tick_pendB (s : State) : (s.raiseEvent .tick).pendB = s.pendB := rfl
@[simp] theorem State.raiseEvent_tick_pendTick (s : State) : (s.raiseEvent .tick).pendTick = true := rfl
@[simp] theorem State.raiseEvent_tick_lvlA (s : State) : (s.raiseEvent .tick).lvlA = s.lvlA := rfl
@[simp] theorem State.raiseEvent_tick_lvlB (s : State) : (s.raiseEvent .tick).lvlB = s.lvlB := rfl
@[simp] theorem State.raiseEvent_tick_response (s : State) : (s.raiseEvent .tick).response = s.response := rfl
@[simp] theorem State.raiseEvent_tick_agenda (s : State) : (s.raiseEvent .tick).agenda = s.agenda := rfl
@[simp] theorem State.raiseEvent_tick_drawn (s : State) : (s.raiseEvent .tick).drawn = s.drawn := rfl

@[simp] theorem State.takeEvent_edgeA_ppr (s : State) : (s.takeEvent .edgeA).ppr = s.ppr := rfl
@[simp] theorem State.takeEvent_edgeA_position (s : State) : (s.takeEvent .edgeA).position = s.position := rfl
@[simp] theorem State.takeEvent_edgeA_dirVec (s : State) : (s.takeEvent .edgeA).dirVec = s.dirVec := rfl
@[simp] theorem State.takeEvent_edgeA_dirChanged (s : State) : (s.takeEvent .edgeA).dirChanged = s.dirChanged := rfl
@[simp] theorem State.takeEvent_edgeA_speedCur (s : State) : (s.takeEvent .edgeA).speedCur = s.speedCur := rfl
@[simp] theorem State.takeEvent_edgeA_speedPrev (s : State) : (s.takeEvent .edgeA).speedPrev = s.speedPrev := rfl
@[simp] theorem State.takeEvent_edgeA_pulsesPerSample (s : State) : (s.takeEvent .edgeA).pulsesPerSample = s.pulsesPerSample := rfl
@[simp] theorem State.takeEvent_edgeA_lastEdgeUs (s : State) : (s.takeEvent .edgeA).lastEdgeUs = s.lastEdgeUs := rfl
@[simp] theorem State.takeEvent_edgeA_fastMode (s : State) : (s.takeEvent .edgeA).fastMode = s.fastMode := rfl
@[simp] theorem State.takeEvent_edgeA_armed (s : State) : (s.takeEvent .edgeA).armed = s.armed := rfl
@[simp] theorem State.takeEvent_edgeA_cfgError (s : State) : (s.takeEvent .edgeA).cfgError = s.cfgError := rfl
@[simp] theorem State.takeEvent_edgeA_nowUs (s : State) : (s.takeEvent .edgeA).nowUs = s.nowUs := rfl
@[simp] theorem State.takeEvent_edgeA_tickTimer (s : State) : (s.takeEvent .edgeA).tickTimer = s.tickTimer := rfl
@[simp] theorem State.takeEvent_edgeA_pendA (s : State) : (s.takeEvent .edgeA).pendA = false := rfl
@[simp] theorem State.takeEvent_edgeA_pendB (s : State) : (s.takeEvent .edgeA).pendB = s.pendB := rfl
@[simp] theorem State.takeEvent_edgeA_pendTick (s : State) : (s.takeEvent .edgeA).pendTick = s.pendTick := rfl
@[simp] theorem State.takeEvent_edgeA_lvlA (s : State) : (s.takeEvent .edgeA).lvlA = s.lvlA := rfl
@[simp] theorem State.takeEvent_edgeA_lvlB (s : State) : (s.takeEvent .edgeA).lvlB = s.lvlB := rfl
@[simp] theorem State.takeEvent_edgeA_response (s : State) : (s.takeEvent .edgeA).response = s.response := rfl
@[simp] theorem State.takeEvent_edgeA_agenda (s : State) : (s.takeEvent .edgeA).agenda = s.agenda := rfl
@[simp] theorem State.takeEvent_edgeA_drawn (s : State) : (s.takeEvent .edgeA).drawn = s.drawn := rfl

@[simp] theorem State.takeEvent_edgeB_ppr (s : State) : (s.takeEvent .edgeB).ppr = s.ppr := rfl
@[simp] theorem State.takeEvent_edgeB_position (s : State) : (s.takeEvent .edgeB).position = s.position := rfl
@[simp] theorem State.takeEvent_edgeB_dirVec (s : State) : (s.takeEvent .edgeB).dirVec = s.dirVec := rfl
@[simp] theorem State.takeEvent_edgeB_dirChanged (s : State) : (s.takeEvent .edgeB).dirChanged = s.dirChanged := rfl
@[simp] theorem State.takeEvent_edgeB_speedCur (s : State) : (s.takeEvent .edgeB).speedCur = s.speedCur := rfl
@[simp] theorem State.takeEvent_edgeB_speedPrev (s : State) : (s.takeEvent .edgeB).speedPrev = s.speedPrev := rfl
@[simp] theorem State.takeEvent_edgeB_pulsesPerSample (s : State) : (s.takeEvent .edgeB).pulsesPerSample = s.pulsesPerSample := rfl
@[simp] theorem State.takeEvent_edgeB_lastEdgeUs (s : State) : (s.takeEvent .edgeB).lastEdgeUs = s.lastEdgeUs := rfl
@[simp] theorem State.takeEvent_edgeB_fastMode (s : State) : (s.takeEvent .edgeB).fastMode = s.fastMode := rfl
@[simp] theorem State.takeEvent_edgeB_armed (s : State) : (s.takeEvent .edgeB).armed = s.armed := rfl
@[simp] theorem State.takeEvent_edgeB_cfgError (s : State) : (s.takeEvent .edgeB).cfgError = s.cfgError := rfl
@[simp] theorem State.takeEvent_edgeB_nowUs (s : State) : (s.takeEvent .edgeB).nowUs = s.nowUs := rfl
@[simp] theorem State.takeEvent_edgeB_tickTimer (s : State) : (s.takeEvent .edgeB).tickTimer = s.tickTimer := rfl
@[simp] theorem State.takeEvent_edgeB_pendA (s : State) : (s.takeEvent .edgeB).pendA = s.pendA := rfl
@[simp] theorem State.takeEvent_edgeB_pendB (s : State) : (s.takeEvent .edgeB).pendB = false := rfl
@[simp] theorem State.takeEvent_edgeB_pendTick (s : State) : (s.takeEvent .edgeB).pendTick = s.pendTick := rfl
@[simp] theorem State.takeEvent_edgeB_lvlA (s : State) : (s.takeEvent .edgeB).lvlA = s.lvlA := rfl
@[simp] theorem State.takeEvent_edgeB_lvlB (s : State) : (s.takeEvent .edgeB).lvlB = s.lvlB := rfl
@[simp] theorem State.takeEvent_edgeB_response (s : State) : (s.takeEvent .edgeB).response = s.response := rfl
@[simp] theorem State.takeEvent_edgeB_agenda (s : State) : (s.takeEvent .edgeB).agenda = s.agenda := rfl
@[simp] theorem State.takeEvent_edgeB_drawn (s : State) : (s.takeEvent .edgeB).drawn = s.drawn := rfl

@[simp] theorem State.takeEvent_tick_ppr (s : State) : (s.takeEvent .tick).ppr = s.ppr := rfl
@[simp] theorem State.takeEvent_tick_position (s : State) : (s.takeEvent .tick).position = s.position := rfl
@[simp] theorem State.takeEvent_tick_dirVec (s : State) : (s.takeEvent .tick).dirVec = s.dirVec := rfl
@[simp] theorem State.takeEvent_tick_dirChanged (s : State) : (s.takeEvent .tick).dirChanged = s.dirChanged := rfl
@[simp] theorem State.takeEvent_tick_speedCur (s : State) : (s.takeEvent .tick).speedCur = s.speedCur := rfl
@[simp] theorem State.takeEvent_tick_speedPrev (s : State) : (s.takeEvent .tick).speedPrev = s.speedPrev := rfl
@[simp] theorem State.takeEvent_tick_pulsesPerSample (s : State) : (s.takeEvent .tick).pulsesPerSample = s.pulsesPerSample := rfl
@[simp] theorem State.takeEvent_tick_lastEdgeUs (s : State) : (s.takeEvent .tick).lastEdgeUs = s.lastEdgeUs := rfl
@[simp] theorem State.takeEvent_tick_fastMode (s : State) : (s.takeEvent .tick).fastMode = s.fastMode := rfl
@[simp] theorem State.takeEvent_tick_armed (s : State) : (s.takeEvent .tick).armed = s.armed := rfl
@[simp] theorem State.takeEvent_tick_cfgError (s : State) : (s.takeEvent .tick).cfgError = s.cfgError := rfl
@[simp] theorem State.takeEvent_tick_nowUs (s : State) : (s.takeEvent .tick).nowUs = s.nowUs := rfl
@[simp] theorem State.takeEvent_tick_tickTimer (s : State) : (s.takeEvent .tick).tickTimer = s.tickTimer := rfl
@[simp] theorem State.takeEvent_tick_pendA (s : State) : (s.takeEvent .tick).pendA = s.pendA := rfl
@[simp] theorem State.takeEvent_tick_pendB (s : State) : (s.takeEvent .tick).pendB = s.pendB := rfl
@[simp] theorem State.takeEvent_tick_pendTick (s : State) : (s.takeEvent .tick).pendTick = false := rfl
@[simp] theorem State.takeEvent_tick_lvlA (s : State) : (s.takeEvent .tick).lvlA = s.lvlA := rfl
@[simp] theorem State.takeEvent_tick_lvlB (s : State) : (s.takeEvent .tick).lvlB = s.lvlB := rfl
@[simp] theorem State.takeEvent_tick_response (s : State) : (s.takeEvent .tick).response = s.response := rfl
@[simp] theorem State.takeEvent_tick_agenda (s : State) : (s.takeEvent .tick).agenda = s.agenda := rfl
@[simp] theorem State.takeEvent_tick_drawn (s : State) : (s.takeEvent .tick).drawn = s.drawn := rfl

@[simp] theorem State.clearLatches_ppr (s : State) : s.clearLatches.ppr = s.ppr := rfl
@[simp] theorem State.clearLatches_position (s : State) : s.clearLatches.position = s.position := rfl
@[simp] theorem State.clearLatches_dirVec (s : State) : s.clearLatches.dirVec = s.dirVec := rfl
@[simp] theorem State.clearLatches_dirChanged (s : State) : s.clearLatches.dirChanged = s.dirChanged := rfl
@[simp] theorem State.clearLatches_speedCur (s : State) : s.clearLatches.speedCur = s.speedCur := rfl
@[simp] theorem State.clearLatches_speedPrev (s : State) : s.clearLatches.speedPrev = s.speedPrev := rfl
@[simp] theorem State.clearLatches_pulsesPerSample (s : State) : s.clearLatches.pulsesPerSample = s.pulsesPerSample := rfl
@[simp] theorem State.clearLatches_lastEdgeUs (s : State) : s.clearLatches.lastEdgeUs = s.lastEdgeUs := rfl
@[simp] theorem State.clearLatches_fastMode (s : State) : s.clearLatches.fastMode = s.fastMode := rfl
@[simp] theorem State.clearLatches_armed (s : State) : s.clearLatches.armed = s.armed := rfl
@[simp] theorem State.clearLatches_cfgError (s : State) : s.clearLatches.cfgError = s.cfgError := rfl
@[simp] theorem State.clearLatches_nowUs (s : State) : s.clearLatches.nowUs = s.nowUs := rfl
@[simp] theorem State.clearLatches_tickTimer (s : State) : s.clearLatches.tickTimer = s.tickTimer := rfl
@[simp] theorem State.clearLatches_pendA (s : State) : s.clearLatches.pendA = false := rfl
@[simp] theorem State.clearLatches_pendB (s : State) : s.clearLatches.pendB = false := rfl
@[simp] theorem State.clearLatches_pendTick (s : State) : s.clearLatches.pendTick = false := rfl
@[simp] theorem State.clearLatches_lvlA (s : State) : s.clearLatches.lvlA = s.lvlA := rfl
@[simp] theorem State.clearLatches_lvlB (s : State) : s.clearLatches.lvlB = s.lvlB := rfl
@[simp] theorem State.clearLatches_response (s : State) : s.clearLatches.response = s.response := rfl
@[simp] theorem State.clearLatches_agenda (s : State) : s.clearLatches.agenda = s.agenda := rfl
@[simp] theorem State.clearLatches_drawn (s : State) : s.clearLatches.drawn = s.drawn := rfl

@[simp] theorem State.disarm_ppr (s : State) : s.disarm.ppr = s.ppr := rfl
@[simp] theorem State.disarm_position (s : State) : s.disarm.position = s.position := rfl
@[simp] theorem State.disarm_dirVec (s : State) : s.disarm.dirVec = s.dirVec := rfl
@[simp] theorem State.disarm_dirChanged (s : State) : s.disarm.dirChanged = s.dirChanged := rfl
@[simp] theorem State.disarm_speedCur (s : State) : s.disarm.speedCur = s.speedCur := rfl
@[simp] theorem State.disarm_speedPrev (s : State) : s.disarm.speedPrev = s.speedPrev := rfl
@[simp] theorem State.disarm_pulsesPerSample (s : State) : s.disarm.pulsesPerSample = s.pulsesPerSample := rfl
@[simp] theorem State.disarm_lastEdgeUs (s : State) : s.disarm.lastEdgeUs = s.lastEdgeUs := rfl
@[simp] theorem State.disarm_fastMode (s : State) : s.disarm.fastMode = s.fastMode := rfl
@[simp] theorem State.disarm_armed (s : State) : s.disarm.armed = false := rfl
@[simp] theorem State.disarm_cfgError (s : State) : s.disarm.cfgError = s.cfgError := rfl
@[simp] theorem State.disarm_nowUs (s : State) : s.disarm.nowUs = s.nowUs := rfl
@[simp] theorem State.disarm_tickTimer (s : State) : s.disarm.tickTimer = s.tickTimer := rfl
@[simp] theorem State.disarm_pendA (s : State) : s.disarm.pendA = false := rfl
@[simp] theorem State.disarm_pendB (s : State) : s.disarm.pendB = false := rfl
@[simp] theorem State.disarm_pendTick (s : State) : s.disarm.pendTick = false := rfl
@[simp] theorem State.disarm_lvlA (s : State) : s.disarm.lvlA = s.lvlA := rfl
@[simp] theorem State.disarm_lvlB (s : State) : s.disarm.lvlB = s.lvlB := rfl
@[simp] theorem State.disarm_response (s : State) : s.disarm.response = s.response := rfl
@[simp] theorem State.disarm_agenda (s : State) : s.disarm.agenda = s.agenda := rfl
@[simp] theorem State.disarm_drawn (s : State) : s.disarm.drawn = s.drawn := rfl

@[simp] theorem State.setLevel_a_ppr (s : State) (v : Bool) : (s.setLevel .a v).ppr = s.ppr := rfl
@[simp] theorem State.setLevel_a_position (s : State) (v : Bool) : (s.setLevel .a v).position = s.position := rfl
@[simp] theorem State.setLevel_a_dirVec (s : State) (v : Bool) : (s.setLevel .a v).dirVec = s.dirVec := rfl
@[simp] theorem State.setLevel_a_dirChanged (s : State) (v : Bool) : (s.setLevel .a v).dirChanged = s.dirChanged := rfl
@[simp] theorem State.setLevel_a_speedCur (s : State) (v : Bool) : (s.setLevel .a v).speedCur = s.speedCur := rfl
@[simp] theorem State.setLevel_a_speedPrev (s : State) (v : Bool) : (s.setLevel .a v).speedPrev = s.speedPrev := rfl
@[simp] theorem State.setLevel_a_pulsesPerSample (s : State) (v : Bool) : (s.setLevel .a v).pulsesPerSample = s.pulsesPerSample := rfl
@[simp] theorem State.setLevel_a_lastEdgeUs (s : State) (v : Bool) : (s.setLevel .a v).lastEdgeUs = s.lastEdgeUs := rfl
@[simp] theorem State.setLevel_a_fastMode (s : State) (v : Bool) : (s.setLevel .a v).fastMode = s.fastMode := rfl
@[simp] theorem State.setLevel_a_armed (s : State) (v : Bool) : (s.setLevel .a v).armed = s.armed := rfl
@[simp] theorem State.setLevel_a_cfgError (s : State) (v : Bool) : (s.setLevel .a v).cfgError = s.cfgError := rfl
@[simp] theorem State.setLevel_a_nowUs (s : State) (v : Bool) : (s.setLevel .a v).nowUs = s.nowUs := rfl
@[simp] theorem State.setLevel_a_tickTimer (s : State) (v : Bool) : (s.setLevel .a v).tickTimer = s.tickTimer := rfl
@[simp] theorem State.setLevel_a_pendA (s : State) (v : Bool) : (s.setLevel .a v).pendA = s.pendA := rfl
@[simp] theorem State.setLevel_a_pendB (s : State) (v : Bool) : (s.setLevel .a v).pendB = s.pendB := rfl
@[simp] theorem State.setLevel_a_pendTick (s : State) (v : Bool) : (s.setLevel .a v).pendTick = s.pendTick := rfl
@[simp] theorem State.setLevel_a_lvlA (s : State) (v : Bool) : (s.setLevel .a v).lvlA = v := rfl
@[simp] theorem State.setLevel_a_lvlB (s : State) (v : Bool) : (s.setLevel .a v).lvlB = s.lvlB := rfl
@[simp] theorem State.setLevel_a_response (s : State) (v : Bool) : (s.setLevel .a v).response = s.response := rfl
@[simp] theorem State.setLevel_a_agenda (s : State) (v : Bool) : (s.setLevel .a v).agenda = s.agenda := rfl
@[simp] theorem State.setLevel_a_drawn (s : State) (v : Bool) : (s.setLevel .a v).drawn = s.drawn := rfl

@[simp] theorem State.setLevel_b_ppr (s : State) (v : Bool) : (s.setLevel .b v).ppr = s.ppr := rfl
@[simp] theorem State.setLevel_b_position (s : State) (v : Bool) : (s.setLevel .b v).position = s.position := rfl
@[simp] theorem State.setLevel_b_dirVec (s : State) (v : Bool) : (s.setLevel .b v).dirVec = s.dirVec := rfl
@[simp] theorem State.setLevel_b_dirChanged (s : State) (v : Bool) : (s.setLevel .b v).dirChanged = s.dirChanged := rfl
@[simp] theorem State.setLevel_b_speedCur (s : State) (v : Bool) : (s.setLevel .b v).speedCur = s.speedCur := rfl
@[simp] theorem State.setLevel_b_speedPrev (s : State) (v : Bool) : (s.setLevel .b v).speedPrev = s.speedPrev := rfl
@[simp] theorem State.setLevel_b_pulsesPerSample (s : State) (v : Bool) : (s.setLevel .b v).pulsesPerSample = s.pulsesPerSample := rfl
@[simp] theorem State.setLevel_b_lastEdgeUs (s : State) (v : Bool) : (s.setLevel .b v).lastEdgeUs = s.lastEdgeUs := rfl
@[simp] theorem State.setLevel_b_fastMode (s : State) (v : Bool) : (s.setLevel .b v).fastMode = s.fastMode := rfl
@[simp] theorem State.setLevel_b_armed (s : State) (v : Bool) : (s.setLevel .b v).armed = s.armed := rfl
@[simp] theorem State.setLevel_b_cfgError (s : State) (v : Bool) : (s.setLevel .b v).cfgError = s.cfgError := rfl
@[simp] theorem State.setLevel_b_nowUs (s : State) (v : Bool) : (s.setLevel .b v).nowUs = s.nowUs := rfl
@[simp] theorem State.setLevel_b_tickTimer (s : State) (v : Bool) : (s.setLevel .b v).tickTimer = s.tickTimer := rfl
@[simp] theorem State.setLevel_b_pendA (s : State) (v : Bool) : (s.setLevel .b v).pendA = s.pendA := rfl
@[simp] theorem State.setLevel_b_pendB (s : State) (v : Bool) : (s.setLevel .b v).pendB = s.pendB := rfl
@[simp] theorem State.setLevel_b_pendTick (s : State) (v : Bool) : (s.setLevel .b v).pendTick = s.pendTick := rfl
@[simp] theorem State.setLevel_b_lvlA (s : State) (v : Bool) : (s.setLevel .b v).lvlA = s.lvlA := rfl
@[simp] theorem State.setLevel_b_lvlB (s : State) (v : Bool) : (s.setLevel .b v).lvlB = v := rfl
@[simp] theorem State.setLevel_b_response (s : State) (v : Bool) : (s.setLevel .b v).response = s.response := rfl
@[simp] theorem State.setLevel_b_agenda (s : State) (v : Bool) : (s.setLevel .b v).agenda = s.agenda := rfl
@[simp] theorem State.setLevel_b_drawn (s : State) (v : Bool) : (s.setLevel .b v).drawn = s.drawn := rfl

@[simp] theorem State.recordDirection_ppr (s : State) (d : Dir) : (s.recordDirection d).ppr = s.ppr := rfl
@[simp] theorem State.recordDirection_position (s : State) (d : Dir) : (s.recordDirection d).position = s.position := rfl
@[simp] theorem State.recordDirection_dirVec (s : State) (d : Dir) : (s.recordDirection d).dirVec = d := rfl
@[simp] theorem State.recordDirection_dirChanged (s : State) (d : Dir) : (s.recordDirection d).dirChanged = dirDiffers d s := rfl
@[simp] theorem State.recordDirection_speedCur (s : State) (d : Dir) : (s.recordDirection d).speedCur = s.speedCur := rfl
@[simp] theorem State.recordDirection_speedPrev (s : State) (d : Dir) : (s.recordDirection d).speedPrev = s.speedPrev := rfl
@[simp] theorem State.recordDirection_pulsesPerSample (s : State) (d : Dir) : (s.recordDirection d).pulsesPerSample = s.pulsesPerSample := rfl
@[simp] theorem State.recordDirection_lastEdgeUs (s : State) (d : Dir) : (s.recordDirection d).lastEdgeUs = s.lastEdgeUs := rfl
@[simp] theorem State.recordDirection_fastMode (s : State) (d : Dir) : (s.recordDirection d).fastMode = s.fastMode := rfl
@[simp] theorem State.recordDirection_armed (s : State) (d : Dir) : (s.recordDirection d).armed = s.armed := rfl
@[simp] theorem State.recordDirection_cfgError (s : State) (d : Dir) : (s.recordDirection d).cfgError = s.cfgError := rfl
@[simp] theorem State.recordDirection_nowUs (s : State) (d : Dir) : (s.recordDirection d).nowUs = s.nowUs := rfl
@[simp] theorem State.recordDirection_tickTimer (s : State) (d : Dir) : (s.recordDirection d).tickTimer = s.tickTimer := rfl
@[simp] theorem State.recordDirection_pendA (s : State) (d : Dir) : (s.recordDirection d).pendA = s.pendA := rfl
@[simp] theorem State.recordDirection_pendB (s : State) (d : Dir) : (s.recordDirection d).pendB = s.pendB := rfl
@[simp] theorem State.recordDirection_pendTick (s : State) (d : Dir) : (s.recordDirection d).pendTick = s.pendTick := rfl
@[simp] theorem State.recordDirection_lvlA (s : State) (d : Dir) : (s.recordDirection d).lvlA = s.lvlA := rfl
@[simp] theorem State.recordDirection_lvlB (s : State) (d : Dir) : (s.recordDirection d).lvlB = s.lvlB := rfl
@[simp] theorem State.recordDirection_response (s : State) (d : Dir) : (s.recordDirection d).response = s.response := rfl
@[simp] theorem State.recordDirection_agenda (s : State) (d : Dir) : (s.recordDirection d).agenda = s.agenda := rfl
@[simp] theorem State.recordDirection_drawn (s : State) (d : Dir) : (s.recordDirection d).drawn = s.drawn := rfl

@[simp] theorem State.updateSpeed_ppr (s : State) (n p : Nat) : (s.updateSpeed n p).ppr = s.ppr := rfl
@[simp] theorem State.updateSpeed_position (s : State) (n p : Nat) : (s.updateSpeed n p).position = s.position := rfl
@[simp] theorem State.updateSpeed_dirVec (s : State) (n p : Nat) : (s.updateSpeed n p).dirVec = s.dirVec := rfl
@[simp] theorem State.updateSpeed_dirChanged (s : State) (n p : Nat) : (s.updateSpeed n p).dirChanged = false := rfl
@[simp] theorem State.updateSpeed_speedCur (s : State) (n p : Nat) : (s.updateSpeed n p).speedCur = wrapU32 (filterOutput s.dirChanged (rawSample n p) s.speedCur.toNat) := rfl
@[simp] theorem State.updateSpeed_speedPrev (s : State) (n p : Nat) : (s.updateSpeed n p).speedPrev = s.speedCur := rfl
@[simp] theorem State.updateSpeed_pulsesPerSample (s : State) (n p : Nat) : (s.updateSpeed n p).pulsesPerSample = s.pulsesPerSample := rfl
@[simp] theorem State.updateSpeed_lastEdgeUs (s : State) (n p : Nat) : (s.updateSpeed n p).lastEdgeUs = s.lastEdgeUs := rfl
@[simp] theorem State.updateSpeed_fastMode (s : State) (n p : Nat) : (s.updateSpeed n p).fastMode = s.fastMode := rfl
@[simp] theorem State.updateSpeed_armed (s : State) (n p : Nat) : (s.updateSpeed n p).armed = s.armed := rfl
@[simp] theorem State.updateSpeed_cfgError (s : State) (n p : Nat) : (s.updateSpeed n p).cfgError = s.cfgError := rfl
@[simp] theorem State.updateSpeed_nowUs (s : State) (n p : Nat) : (s.updateSpeed n p).nowUs = s.nowUs := rfl
@[simp] theorem State.updateSpeed_tickTimer (s : State) (n p : Nat) : (s.updateSpeed n p).tickTimer = s.tickTimer := rfl
@[simp] theorem State.updateSpeed_pendA (s : State) (n p : Nat) : (s.updateSpeed n p).pendA = s.pendA := rfl
@[simp] theorem State.updateSpeed_pendB (s : State) (n p : Nat) : (s.updateSpeed n p).pendB = s.pendB := rfl
@[simp] theorem State.updateSpeed_pendTick (s : State) (n p : Nat) : (s.updateSpeed n p).pendTick = s.pendTick := rfl
@[simp] theorem State.updateSpeed_lvlA (s : State) (n p : Nat) : (s.updateSpeed n p).lvlA = s.lvlA := rfl
@[simp] theorem State.updateSpeed_lvlB (s : State) (n p : Nat) : (s.updateSpeed n p).lvlB = s.lvlB := rfl
@[simp] theorem State.updateSpeed_response (s : State) (n p : Nat) : (s.updateSpeed n p).response = s.response := rfl
@[simp] theorem State.updateSpeed_agenda (s : State) (n p : Nat) : (s.updateSpeed n p).agenda = s.agenda := rfl
@[simp] theorem State.updateSpeed_drawn (s : State) (n p : Nat) : (s.updateSpeed n p).drawn = s.drawn := rfl

@[simp] theorem State.movePosition_ppr (s : State) (d : Dir) : (s.movePosition d).ppr = s.ppr := rfl
@[simp] theorem State.movePosition_position (s : State) (d : Dir) : (s.movePosition d).position = wrapU32 (nextPosition s.ppr.toNat s.position.toNat d) := rfl
@[simp] theorem State.movePosition_dirVec (s : State) (d : Dir) : (s.movePosition d).dirVec = s.dirVec := rfl
@[simp] theorem State.movePosition_dirChanged (s : State) (d : Dir) : (s.movePosition d).dirChanged = s.dirChanged := rfl
@[simp] theorem State.movePosition_speedCur (s : State) (d : Dir) : (s.movePosition d).speedCur = s.speedCur := rfl
@[simp] theorem State.movePosition_speedPrev (s : State) (d : Dir) : (s.movePosition d).speedPrev = s.speedPrev := rfl
@[simp] theorem State.movePosition_pulsesPerSample (s : State) (d : Dir) : (s.movePosition d).pulsesPerSample = s.pulsesPerSample := rfl
@[simp] theorem State.movePosition_lastEdgeUs (s : State) (d : Dir) : (s.movePosition d).lastEdgeUs = s.lastEdgeUs := rfl
@[simp] theorem State.movePosition_fastMode (s : State) (d : Dir) : (s.movePosition d).fastMode = s.fastMode := rfl
@[simp] theorem State.movePosition_armed (s : State) (d : Dir) : (s.movePosition d).armed = s.armed := rfl
@[simp] theorem State.movePosition_cfgError (s : State) (d : Dir) : (s.movePosition d).cfgError = s.cfgError := rfl
@[simp] theorem State.movePosition_nowUs (s : State) (d : Dir) : (s.movePosition d).nowUs = s.nowUs := rfl
@[simp] theorem State.movePosition_tickTimer (s : State) (d : Dir) : (s.movePosition d).tickTimer = s.tickTimer := rfl
@[simp] theorem State.movePosition_pendA (s : State) (d : Dir) : (s.movePosition d).pendA = s.pendA := rfl
@[simp] theorem State.movePosition_pendB (s : State) (d : Dir) : (s.movePosition d).pendB = s.pendB := rfl
@[simp] theorem State.movePosition_pendTick (s : State) (d : Dir) : (s.movePosition d).pendTick = s.pendTick := rfl
@[simp] theorem State.movePosition_lvlA (s : State) (d : Dir) : (s.movePosition d).lvlA = s.lvlA := rfl
@[simp] theorem State.movePosition_lvlB (s : State) (d : Dir) : (s.movePosition d).lvlB = s.lvlB := rfl
@[simp] theorem State.movePosition_response (s : State) (d : Dir) : (s.movePosition d).response = s.response := rfl
@[simp] theorem State.movePosition_agenda (s : State) (d : Dir) : (s.movePosition d).agenda = s.agenda := rfl
@[simp] theorem State.movePosition_drawn (s : State) (d : Dir) : (s.movePosition d).drawn = s.drawn := rfl

@[simp] theorem State.stampSlow_ppr (s : State) (c : Config) (e : Nat) : (s.stampSlow c e).ppr = s.ppr := rfl
@[simp] theorem State.stampSlow_position (s : State) (c : Config) (e : Nat) : (s.stampSlow c e).position = s.position := rfl
@[simp] theorem State.stampSlow_dirVec (s : State) (c : Config) (e : Nat) : (s.stampSlow c e).dirVec = s.dirVec := rfl
@[simp] theorem State.stampSlow_dirChanged (s : State) (c : Config) (e : Nat) : (s.stampSlow c e).dirChanged = s.dirChanged := rfl
@[simp] theorem State.stampSlow_speedCur (s : State) (c : Config) (e : Nat) : (s.stampSlow c e).speedCur = s.speedCur := rfl
@[simp] theorem State.stampSlow_speedPrev (s : State) (c : Config) (e : Nat) : (s.stampSlow c e).speedPrev = s.speedPrev := rfl
@[simp] theorem State.stampSlow_pulsesPerSample (s : State) (c : Config) (e : Nat) : (s.stampSlow c e).pulsesPerSample = s.pulsesPerSample := rfl
@[simp] theorem State.stampSlow_lastEdgeUs (s : State) (c : Config) (e : Nat) : (s.stampSlow c e).lastEdgeUs = wrapU32 ((s.lastEdgeUs.toNat : Int) + e - c.filterCostUs.toNat) := rfl
@[simp] theorem State.stampSlow_fastMode (s : State) (c : Config) (e : Nat) : (s.stampSlow c e).fastMode = s.fastMode := rfl
@[simp] theorem State.stampSlow_armed (s : State) (c : Config) (e : Nat) : (s.stampSlow c e).armed = s.armed := rfl
@[simp] theorem State.stampSlow_cfgError (s : State) (c : Config) (e : Nat) : (s.stampSlow c e).cfgError = s.cfgError := rfl
@[simp] theorem State.stampSlow_nowUs (s : State) (c : Config) (e : Nat) : (s.stampSlow c e).nowUs = s.nowUs := rfl
@[simp] theorem State.stampSlow_tickTimer (s : State) (c : Config) (e : Nat) : (s.stampSlow c e).tickTimer = s.tickTimer := rfl
@[simp] theorem State.stampSlow_pendA (s : State) (c : Config) (e : Nat) : (s.stampSlow c e).pendA = s.pendA := rfl
@[simp] theorem State.stampSlow_pendB (s : State) (c : Config) (e : Nat) : (s.stampSlow c e).pendB = s.pendB := rfl
@[simp] theorem State.stampSlow_pendTick (s : State) (c : Config) (e : Nat) : (s.stampSlow c e).pendTick = s.pendTick := rfl
@[simp] theorem State.stampSlow_lvlA (s : State) (c : Config) (e : Nat) : (s.stampSlow c e).lvlA = s.lvlA := rfl
@[simp] theorem State.stampSlow_lvlB (s : State) (c : Config) (e : Nat) : (s.stampSlow c e).lvlB = s.lvlB := rfl
@[simp] theorem State.stampSlow_response (s : State) (c : Config) (e : Nat) : (s.stampSlow c e).response = s.response := rfl
@[simp] theorem State.stampSlow_agenda (s : State) (c : Config) (e : Nat) : (s.stampSlow c e).agenda = s.agenda := rfl
@[simp] theorem State.stampSlow_drawn (s : State) (c : Config) (e : Nat) : (s.stampSlow c e).drawn = s.drawn := rfl

@[simp] theorem State.fastEdge_ppr (s : State) (d : Dir) : (s.fastEdge d).ppr = s.ppr := rfl
@[simp] theorem State.fastEdge_position (s : State) (d : Dir) : (s.fastEdge d).position = s.position := rfl
@[simp] theorem State.fastEdge_dirVec (s : State) (d : Dir) : (s.fastEdge d).dirVec = s.dirVec := rfl
@[simp] theorem State.fastEdge_dirChanged (s : State) (d : Dir) : (s.fastEdge d).dirChanged = s.dirChanged := rfl
@[simp] theorem State.fastEdge_speedCur (s : State) (d : Dir) : (s.fastEdge d).speedCur = s.speedCur := rfl
@[simp] theorem State.fastEdge_speedPrev (s : State) (d : Dir) : (s.fastEdge d).speedPrev = s.speedPrev := rfl
@[simp] theorem State.fastEdge_pulsesPerSample (s : State) (d : Dir) : (s.fastEdge d).pulsesPerSample = wrapU32 (wrapS32 (s.pulsesPerSample.toInt + d.toInt)) := rfl
@[simp] theorem State.fastEdge_lastEdgeUs (s : State) (d : Dir) : (s.fastEdge d).lastEdgeUs = s.nowUs := rfl
@[simp] theorem State.fastEdge_fastMode (s : State) (d : Dir) : (s.fastEdge d).fastMode = s.fastMode := rfl
@[simp] theorem State.fastEdge_armed (s : State) (d : Dir) : (s.fastEdge d).armed = s.armed := rfl
@[simp] theorem State.fastEdge_cfgError (s : State) (d : Dir) : (s.fastEdge d).cfgError = s.cfgError := rfl
@[simp] theorem State.fastEdge_nowUs (s : State) (d : Dir) : (s.fastEdge d).nowUs = s.nowUs := rfl
@[simp] theorem State.fastEdge_tickTimer (s : State) (d : Dir) : (s.fastEdge d).tickTimer = s.tickTimer := rfl
@[simp] theorem State.fastEdge_pendA (s : State) (d : Dir) : (s.fastEdge d).pendA = s.pendA := rfl
@[simp] theorem State.fastEdge_pendB (s : State) (d : Dir) : (s.fastEdge d).pendB = s.pendB := rfl
@[simp] theorem State.fastEdge_pendTick (s : State) (d : Dir) : (s.fastEdge d).pendTick = s.pendTick := rfl
@[simp] theorem State.fastEdge_lvlA (s : State) (d : Dir) : (s.fastEdge d).lvlA = s.lvlA := rfl
@[simp] theorem State.fastEdge_lvlB (s : State) (d : Dir) : (s.fastEdge d).lvlB = s.lvlB := rfl
@[simp] theorem State.fastEdge_response (s : State) (d : Dir) : (s.fastEdge d).response = s.response := rfl
@[simp] theorem State.fastEdge_agenda (s : State) (d : Dir) : (s.fastEdge d).agenda = s.agenda := rfl
@[simp] theorem State.fastEdge_drawn (s : State) (d : Dir) : (s.fastEdge d).drawn = s.drawn := rfl

@[simp] theorem State.stall_ppr (s : State) : s.stall.ppr = s.ppr := rfl
@[simp] theorem State.stall_position (s : State) : s.stall.position = s.position := rfl
@[simp] theorem State.stall_dirVec (s : State) : s.stall.dirVec = s.dirVec := rfl
@[simp] theorem State.stall_dirChanged (s : State) : s.stall.dirChanged = s.dirChanged := rfl
@[simp] theorem State.stall_speedCur (s : State) : s.stall.speedCur = 0 := rfl
@[simp] theorem State.stall_speedPrev (s : State) : s.stall.speedPrev = s.speedCur := rfl
@[simp] theorem State.stall_pulsesPerSample (s : State) : s.stall.pulsesPerSample = s.pulsesPerSample := rfl
@[simp] theorem State.stall_lastEdgeUs (s : State) : s.stall.lastEdgeUs = s.lastEdgeUs := rfl
@[simp] theorem State.stall_fastMode (s : State) : s.stall.fastMode = s.fastMode := rfl
@[simp] theorem State.stall_armed (s : State) : s.stall.armed = s.armed := rfl
@[simp] theorem State.stall_cfgError (s : State) : s.stall.cfgError = s.cfgError := rfl
@[simp] theorem State.stall_nowUs (s : State) : s.stall.nowUs = s.nowUs := rfl
@[simp] theorem State.stall_tickTimer (s : State) : s.stall.tickTimer = s.tickTimer := rfl
@[simp] theorem State.stall_pendA (s : State) : s.stall.pendA = s.pendA := rfl
@[simp] theorem State.stall_pendB (s : State) : s.stall.pendB = s.pendB := rfl
@[simp] theorem State.stall_pendTick (s : State) : s.stall.pendTick = s.pendTick := rfl
@[simp] theorem State.stall_lvlA (s : State) : s.stall.lvlA = s.lvlA := rfl
@[simp] theorem State.stall_lvlB (s : State) : s.stall.lvlB = s.lvlB := rfl
@[simp] theorem State.stall_response (s : State) : s.stall.response = s.response := rfl
@[simp] theorem State.stall_agenda (s : State) : s.stall.agenda = s.agenda := rfl
@[simp] theorem State.stall_drawn (s : State) : s.stall.drawn = s.drawn := rfl

@[simp] theorem State.clearPulses_ppr (s : State) : s.clearPulses.ppr = s.ppr := rfl
@[simp] theorem State.clearPulses_position (s : State) : s.clearPulses.position = s.position := rfl
@[simp] theorem State.clearPulses_dirVec (s : State) : s.clearPulses.dirVec = s.dirVec := rfl
@[simp] theorem State.clearPulses_dirChanged (s : State) : s.clearPulses.dirChanged = s.dirChanged := rfl
@[simp] theorem State.clearPulses_speedCur (s : State) : s.clearPulses.speedCur = s.speedCur := rfl
@[simp] theorem State.clearPulses_speedPrev (s : State) : s.clearPulses.speedPrev = s.speedPrev := rfl
@[simp] theorem State.clearPulses_pulsesPerSample (s : State) : s.clearPulses.pulsesPerSample = 0 := rfl
@[simp] theorem State.clearPulses_lastEdgeUs (s : State) : s.clearPulses.lastEdgeUs = s.lastEdgeUs := rfl
@[simp] theorem State.clearPulses_fastMode (s : State) : s.clearPulses.fastMode = s.fastMode := rfl
@[simp] theorem State.clearPulses_armed (s : State) : s.clearPulses.armed = s.armed := rfl
@[simp] theorem State.clearPulses_cfgError (s : State) : s.clearPulses.cfgError = s.cfgError := rfl
@[simp] theorem State.clearPulses_nowUs (s : State) : s.clearPulses.nowUs = s.nowUs := rfl
@[simp] theorem State.clearPulses_tickTimer (s : State) : s.clearPulses.tickTimer = s.tickTimer := rfl
@[simp] theorem State.clearPulses_pendA (s : State) : s.clearPulses.pendA = s.pendA := rfl
@[simp] theorem State.clearPulses_pendB (s : State) : s.clearPulses.pendB = s.pendB := rfl
@[simp] theorem State.clearPulses_pendTick (s : State) : s.clearPulses.pendTick = s.pendTick := rfl
@[simp] theorem State.clearPulses_lvlA (s : State) : s.clearPulses.lvlA = s.lvlA := rfl
@[simp] theorem State.clearPulses_lvlB (s : State) : s.clearPulses.lvlB = s.lvlB := rfl
@[simp] theorem State.clearPulses_response (s : State) : s.clearPulses.response = s.response := rfl
@[simp] theorem State.clearPulses_agenda (s : State) : s.clearPulses.agenda = s.agenda := rfl
@[simp] theorem State.clearPulses_drawn (s : State) : s.clearPulses.drawn = s.drawn := rfl

@[simp] theorem State.selectMode_ppr (s : State) (c : Config) : (s.selectMode c).ppr = s.ppr := rfl
@[simp] theorem State.selectMode_position (s : State) (c : Config) : (s.selectMode c).position = s.position := rfl
@[simp] theorem State.selectMode_dirVec (s : State) (c : Config) : (s.selectMode c).dirVec = s.dirVec := rfl
@[simp] theorem State.selectMode_dirChanged (s : State) (c : Config) : (s.selectMode c).dirChanged = s.dirChanged := rfl
@[simp] theorem State.selectMode_speedCur (s : State) (c : Config) : (s.selectMode c).speedCur = s.speedCur := rfl
@[simp] theorem State.selectMode_speedPrev (s : State) (c : Config) : (s.selectMode c).speedPrev = s.speedPrev := rfl
@[simp] theorem State.selectMode_pulsesPerSample (s : State) (c : Config) : (s.selectMode c).pulsesPerSample = s.pulsesPerSample := rfl
@[simp] theorem State.selectMode_lastEdgeUs (s : State) (c : Config) : (s.selectMode c).lastEdgeUs = s.lastEdgeUs := rfl
@[simp] theorem State.selectMode_fastMode (s : State) (c : Config) : (s.selectMode c).fastMode = fastSelect c s.speedCur.toNat := rfl
@[simp] theorem State.selectMode_armed (s : State) (c : Config) : (s.selectMode c).armed = s.armed := rfl
@[simp] theorem State.selectMode_cfgError (s : State) (c : Config) : (s.selectMode c).cfgError = s.cfgError := rfl
@[simp] theorem State.selectMode_nowUs (s : State) (c : Config) : (s.selectMode c).nowUs = s.nowUs := rfl
@[simp] theorem State.selectMode_tickTimer (s : State) (c : Config) : (s.selectMode c).tickTimer = s.tickTimer := rfl
@[simp] theorem State.selectMode_pendA (s : State) (c : Config) : (s.selectMode c).pendA = s.pendA := rfl
@[simp] theorem State.selectMode_pendB (s : State) (c : Config) : (s.selectMode c).pendB = s.pendB := rfl
@[simp] theorem State.selectMode_pendTick (s : State) (c : Config) : (s.selectMode c).pendTick = s.pendTick := rfl
@[simp] theorem State.selectMode_lvlA (s : State) (c : Config) : (s.selectMode c).lvlA = s.lvlA := rfl
@[simp] theorem State.selectMode_lvlB (s : State) (c : Config) : (s.selectMode c).lvlB = s.lvlB := rfl
@[simp] theorem State.selectMode_response (s : State) (c : Config) : (s.selectMode c).response = s.response := rfl
@[simp] theorem State.selectMode_agenda (s : State) (c : Config) : (s.selectMode c).agenda = s.agenda := rfl
@[simp] theorem State.selectMode_drawn (s : State) (c : Config) : (s.selectMode c).drawn = s.drawn := rfl

@[simp] theorem State.configure_ppr (s : State) (n : Nat) : (s.configure n).ppr = wrapU32 n := rfl
@[simp] theorem State.configure_position (s : State) (n : Nat) : (s.configure n).position = 0 := rfl
@[simp] theorem State.configure_dirVec (s : State) (n : Nat) : (s.configure n).dirVec = .ccw := rfl
@[simp] theorem State.configure_dirChanged (s : State) (n : Nat) : (s.configure n).dirChanged = false := rfl
@[simp] theorem State.configure_speedCur (s : State) (n : Nat) : (s.configure n).speedCur = 0 := rfl
@[simp] theorem State.configure_speedPrev (s : State) (n : Nat) : (s.configure n).speedPrev = 0 := rfl
@[simp] theorem State.configure_pulsesPerSample (s : State) (n : Nat) : (s.configure n).pulsesPerSample = 0 := rfl
@[simp] theorem State.configure_lastEdgeUs (s : State) (n : Nat) : (s.configure n).lastEdgeUs = s.nowUs := rfl
@[simp] theorem State.configure_fastMode (s : State) (n : Nat) : (s.configure n).fastMode = false := rfl
@[simp] theorem State.configure_armed (s : State) (n : Nat) : (s.configure n).armed = true := rfl
@[simp] theorem State.configure_cfgError (s : State) (n : Nat) : (s.configure n).cfgError = false := rfl
@[simp] theorem State.configure_nowUs (s : State) (n : Nat) : (s.configure n).nowUs = s.nowUs := rfl
@[simp] theorem State.configure_tickTimer (s : State) (n : Nat) : (s.configure n).tickTimer = 0 := rfl
@[simp] theorem State.configure_pendA (s : State) (n : Nat) : (s.configure n).pendA = false := rfl
@[simp] theorem State.configure_pendB (s : State) (n : Nat) : (s.configure n).pendB = false := rfl
@[simp] theorem State.configure_pendTick (s : State) (n : Nat) : (s.configure n).pendTick = false := rfl
@[simp] theorem State.configure_lvlA (s : State) (n : Nat) : (s.configure n).lvlA = s.lvlA := rfl
@[simp] theorem State.configure_lvlB (s : State) (n : Nat) : (s.configure n).lvlB = s.lvlB := rfl
@[simp] theorem State.configure_response (s : State) (n : Nat) : (s.configure n).response = s.response := rfl
@[simp] theorem State.configure_agenda (s : State) (n : Nat) : (s.configure n).agenda = s.agenda := rfl
@[simp] theorem State.configure_drawn (s : State) (n : Nat) : (s.configure n).drawn = s.drawn := rfl

@[simp] theorem State.rejectConfig_ppr (s : State) : s.rejectConfig.ppr = s.ppr := rfl
@[simp] theorem State.rejectConfig_position (s : State) : s.rejectConfig.position = s.position := rfl
@[simp] theorem State.rejectConfig_dirVec (s : State) : s.rejectConfig.dirVec = s.dirVec := rfl
@[simp] theorem State.rejectConfig_dirChanged (s : State) : s.rejectConfig.dirChanged = s.dirChanged := rfl
@[simp] theorem State.rejectConfig_speedCur (s : State) : s.rejectConfig.speedCur = s.speedCur := rfl
@[simp] theorem State.rejectConfig_speedPrev (s : State) : s.rejectConfig.speedPrev = s.speedPrev := rfl
@[simp] theorem State.rejectConfig_pulsesPerSample (s : State) : s.rejectConfig.pulsesPerSample = s.pulsesPerSample := rfl
@[simp] theorem State.rejectConfig_lastEdgeUs (s : State) : s.rejectConfig.lastEdgeUs = s.lastEdgeUs := rfl
@[simp] theorem State.rejectConfig_fastMode (s : State) : s.rejectConfig.fastMode = s.fastMode := rfl
@[simp] theorem State.rejectConfig_armed (s : State) : s.rejectConfig.armed = false := rfl
@[simp] theorem State.rejectConfig_cfgError (s : State) : s.rejectConfig.cfgError = true := rfl
@[simp] theorem State.rejectConfig_nowUs (s : State) : s.rejectConfig.nowUs = s.nowUs := rfl
@[simp] theorem State.rejectConfig_tickTimer (s : State) : s.rejectConfig.tickTimer = s.tickTimer := rfl
@[simp] theorem State.rejectConfig_pendA (s : State) : s.rejectConfig.pendA = false := rfl
@[simp] theorem State.rejectConfig_pendB (s : State) : s.rejectConfig.pendB = false := rfl
@[simp] theorem State.rejectConfig_pendTick (s : State) : s.rejectConfig.pendTick = false := rfl
@[simp] theorem State.rejectConfig_lvlA (s : State) : s.rejectConfig.lvlA = s.lvlA := rfl
@[simp] theorem State.rejectConfig_lvlB (s : State) : s.rejectConfig.lvlB = s.lvlB := rfl
@[simp] theorem State.rejectConfig_response (s : State) : s.rejectConfig.response = s.response := rfl
@[simp] theorem State.rejectConfig_agenda (s : State) : s.rejectConfig.agenda = s.agenda := rfl
@[simp] theorem State.rejectConfig_drawn (s : State) : s.rejectConfig.drawn = s.drawn := rfl

@[simp] theorem State.offer_ppr (s : State) (a : AgentStep) : (s.offer a).ppr = s.ppr := rfl
@[simp] theorem State.offer_position (s : State) (a : AgentStep) : (s.offer a).position = s.position := rfl
@[simp] theorem State.offer_dirVec (s : State) (a : AgentStep) : (s.offer a).dirVec = s.dirVec := rfl
@[simp] theorem State.offer_dirChanged (s : State) (a : AgentStep) : (s.offer a).dirChanged = s.dirChanged := rfl
@[simp] theorem State.offer_speedCur (s : State) (a : AgentStep) : (s.offer a).speedCur = s.speedCur := rfl
@[simp] theorem State.offer_speedPrev (s : State) (a : AgentStep) : (s.offer a).speedPrev = s.speedPrev := rfl
@[simp] theorem State.offer_pulsesPerSample (s : State) (a : AgentStep) : (s.offer a).pulsesPerSample = s.pulsesPerSample := rfl
@[simp] theorem State.offer_lastEdgeUs (s : State) (a : AgentStep) : (s.offer a).lastEdgeUs = s.lastEdgeUs := rfl
@[simp] theorem State.offer_fastMode (s : State) (a : AgentStep) : (s.offer a).fastMode = s.fastMode := rfl
@[simp] theorem State.offer_armed (s : State) (a : AgentStep) : (s.offer a).armed = s.armed := rfl
@[simp] theorem State.offer_cfgError (s : State) (a : AgentStep) : (s.offer a).cfgError = s.cfgError := rfl
@[simp] theorem State.offer_nowUs (s : State) (a : AgentStep) : (s.offer a).nowUs = s.nowUs := rfl
@[simp] theorem State.offer_tickTimer (s : State) (a : AgentStep) : (s.offer a).tickTimer = s.tickTimer := rfl
@[simp] theorem State.offer_pendA (s : State) (a : AgentStep) : (s.offer a).pendA = s.pendA := rfl
@[simp] theorem State.offer_pendB (s : State) (a : AgentStep) : (s.offer a).pendB = s.pendB := rfl
@[simp] theorem State.offer_pendTick (s : State) (a : AgentStep) : (s.offer a).pendTick = s.pendTick := rfl
@[simp] theorem State.offer_lvlA (s : State) (a : AgentStep) : (s.offer a).lvlA = s.lvlA := rfl
@[simp] theorem State.offer_lvlB (s : State) (a : AgentStep) : (s.offer a).lvlB = s.lvlB := rfl
@[simp] theorem State.offer_response (s : State) (a : AgentStep) : (s.offer a).response = s.response := rfl
@[simp] theorem State.offer_agenda (s : State) (a : AgentStep) : (s.offer a).agenda = a :: s.agenda := rfl
@[simp] theorem State.offer_drawn (s : State) (a : AgentStep) : (s.offer a).drawn = s.drawn := rfl

end Sys2Proof.Machine
end

