-- ==== Sys2Proof/Laws/Words.lean ====
section
/-! SUPPORT. Number and word lemmas: wrapping, the decoder's answers, what the command port accepts. -/

namespace Sys2Proof.Machine

theorem wrapU32_natCast (n : Nat) : wrapU32 (n : Int) = BitVec.ofNat 32 n := by
  simp [wrapU32]

theorem wrapU32_natCast_toNat (n : Nat) : (wrapU32 (n : Int)).toNat = n % 2 ^ 32 := by
  rw [wrapU32_natCast, BitVec.toNat_ofNat]

theorem wrapU32_toNat_of_lt {v : Int} (h0 : 0 ≤ v) (h : v < 2 ^ 32) : ((wrapU32 v).toNat : Int) = v := by
  obtain ⟨n, rfl⟩ := Int.eq_ofNat_of_zero_le h0
  rw [wrapU32_natCast_toNat]
  omega

theorem wrapU32_toInt (v : Int) : (wrapU32 v).toInt = wrapS32 v := rfl

theorem wrapU32_wrapS32 (v : Int) : wrapU32 (wrapS32 v) = wrapU32 v := by
  rw [wrapS32, wrapU32, BitVec.ofInt_toInt]

theorem wrapU32_word (w : Word) : wrapU32 (w.toNat : Int) = w := by
  rw [wrapU32_natCast]; simp

theorem wrapU32_sub (v w : Word) : wrapU32 ((v.toNat : Int) - w.toNat) = v - w := by
  apply BitVec.eq_of_toNat_eq
  rw [wrapU32, BitVec.toNat_ofInt, BitVec.toNat_sub]
  have hv := v.isLt
  have hw := w.isLt
  omega

theorem State.elapsed_eq (s : State) : s.elapsed = (s.nowUs - s.lastEdgeUs).toNat := by
  rw [State.elapsed, State.now, wrapU32_sub]

theorem Dir.toInt_cases (d : Dir) : d.toInt = 1 ∨ d.toInt = -1 := by cases d <;> simp [Dir.toInt]

end Sys2Proof.Machine

namespace Sys2Proof

/-- What the command port answers for a word: five host words, and nothing else. -/
theorem portAccepts_eq (op : OpWord) (d : Word) :
    portAccepts op d =
      if op = 0x30#8 then some (.init d.toNat) else if op = 0x40#8 then some .setHome
      else if op = 0x50#8 then some .getPosition else if op = 0x60#8 then some .getVelocity
      else if op = 0x70#8 then some .disarm else none := by
  have h : ∀ op : OpWord, opEdgeBits op = 0b000100#6 →
      op ≠ 0x30#8 ∧ op ≠ 0x40#8 ∧ op ≠ 0x50#8 ∧ op ≠ 0x60#8 ∧ op ≠ 0x70#8 := by decide
  unfold portAccepts decode
  by_cases he : opEdgeBits op = 0b000100#6
  · obtain ⟨h1, h2, h3, h4, h5⟩ := h op he
    by_cases hc : opChannelB op = true <;> simp [he, hc, h1, h2, h3, h4, h5, Instr.issuer, Instr.format]
  · by_cases h0 : op = 0x20#8
    · subst h0; simp [he, Instr.issuer, Instr.format]
    · simp only [he, h0, if_false]
      split_ifs <;> simp [Instr.issuer, Instr.format]

end Sys2Proof
end

