-- ==== Sys2Proof/Laws/Ops.lean ====
section
/-! SUPPORT. What each shared operation does, said once: the Sensor and Clock steps, an edge on either path, TICK in either
mode, and how a step of the machine is an agent's step. -/

namespace Sys2Proof.Machine

/-! ### Latches and levels, for any source -/

@[simp] theorem State.raiseEvent_pending (s : State) (e f : Event) :
    (s.raiseEvent e).pending f = (decide (e = f) || s.pending f) := by
  cases e <;> cases f <;> simp [State.pending]

@[simp] theorem State.takeEvent_pending (s : State) (e f : Event) :
    (s.takeEvent e).pending f = (decide (e ≠ f) && s.pending f) := by
  cases e <;> cases f <;> simp [State.pending]

@[simp] theorem State.setLevel_level (s : State) (ch ch' : Channel) (v : Bool) :
    (s.setLevel ch v).level ch' = if ch = ch' then v else s.level ch' := by
  cases ch <;> cases ch' <;> simp [State.level]

theorem State.takeEvent_frame (s : State) (e : Event) :
    s.takeEvent e = { s with pendA := (s.takeEvent e).pendA, pendB := (s.takeEvent e).pendB, pendTick := (s.takeEvent e).pendTick } := by
  cases e <;> rfl

/-! ### Sensor and Clock -/

theorem State.sensorStep_a (s : State) (v : Bool) :
    s.sensorStep .a v = { s with lvlA := v, pendA := s.pendA || (!s.lvlA && v && s.armed) } := by
  obtain ⟨_, _, _, _, _, _, _, _, _, armed, _, _, _, pa, _, _, la, _⟩ := s
  cases v <;> cases armed <;> cases la <;> cases pa <;> rfl

theorem State.sensorStep_b (s : State) (v : Bool) :
    s.sensorStep .b v = { s with lvlB := v, pendB := s.pendB || (!s.lvlB && v && s.armed) } := by
  obtain ⟨_, _, _, _, _, _, _, _, _, armed, _, _, _, _, pb, _, _, lb⟩ := s
  cases v <;> cases armed <;> cases lb <;> cases pb <;> rfl

theorem State.clockStep_disarmed (c : Config) (s : State) (h : s.armed = false) :
    s.clockStep c = { s with nowUs := wrapU32 (s.nowUs.toNat + 1) } := by
  simp [State.clockStep, State.sampleTimer, h]

theorem State.clockStep_armed (c : Config) (s : State) (h : s.armed = true) :
    s.clockStep c = { s with
      nowUs := wrapU32 (s.nowUs.toNat + 1)
      tickTimer := if s.tickTimer.toNat + 1 = c.tickPeriodUs then 0 else wrapU32 (s.tickTimer.toNat + 1)
      pendTick := decide (s.tickTimer.toNat + 1 = c.tickPeriodUs) || s.pendTick } := by
  by_cases hp : s.tickTimer.toNat + 1 = c.tickPeriodUs <;>
    simp [State.clockStep, State.sampleTimer, State.raiseEvent, h, hp]

/-! ### Edges and TICK -/

theorem State.edge_fast (c : Config) (ch : Channel) (l : Bool) (s : State) (h : s.fastMode = true) :
    s.edge c ch l = { s with
      position := wrapU32 (nextPosition s.ppr.toNat s.position.toNat (decodeDir ch l))
      pulsesPerSample := wrapU32 (wrapS32 (s.pulsesPerSample.toInt + (decodeDir ch l).toInt))
      lastEdgeUs := s.nowUs } := by
  rw [State.edge, State.updatePosition, if_pos h]; rfl

theorem State.edge_slow (c : Config) (ch : Channel) (l : Bool) (s : State) (h : s.fastMode = false) :
    s.edge c ch l = { s with
      position := wrapU32 (nextPosition s.ppr.toNat s.position.toNat (decodeDir ch l))
      dirVec := decodeDir ch l
      dirChanged := false
      speedPrev := s.speedCur
      speedCur := wrapU32 (filterOutput (dirDiffers (decodeDir ch l) s) (rawSample 1 s.elapsed) s.speedCur.toNat)
      lastEdgeUs := wrapU32 ((s.lastEdgeUs.toNat : Int) + s.elapsed - c.filterCostUs.toNat) } := by
  rw [State.edge, State.updatePosition, if_neg (by simp [h])]; rfl

theorem State.tick_fast (c : Config) (s : State) (h : s.fastMode = true) :
    s.tick c = { s with
      dirVec := s.sampleDir
      dirChanged := false
      speedPrev := s.speedCur
      speedCur := (s.fastSample c).speedCur
      pulsesPerSample := 0
      fastMode := fastSelect c (s.fastSample c).speedCur.toNat } := by
  rw [State.tick, if_pos h]; rfl

theorem State.tick_slow (c : Config) (s : State) (h : s.fastMode = false) :
    s.tick c = { s with
      speedPrev := if stalled c s then s.speedCur else s.speedPrev
      speedCur := if stalled c s then 0 else s.speedCur
      pulsesPerSample := 0
      fastMode := fastSelect c (if stalled c s then 0 else s.speedCur).toNat } := by
  by_cases hs : stalled c s = true <;>
    simp [State.tick, State.stallCheck, State.stall, State.clearPulses, State.selectMode, h, hs]

/-! ### A step of the machine -/

theorem step_cons {s : State} {a : AgentStep} {rest : List AgentStep} (h : s.agenda = a :: rest) :
    step s = agentStep a { s with agenda := rest } := by
  simp [step, State.nextAgent, State.afterChoice, h]

theorem step_nil {s : State} (h : s.agenda = []) :
    step s = agentStep (Config.schedule s.drawn) { s with drawn := s.drawn + 1 } := by
  simp [step, State.nextAgent, State.afterChoice, h]

theorem agentStep_service_set {s : State} {e : Event} (h : s.pending e = true) :
    agentStep (.service e) s = exec (serviceInstr e s) (s.takeEvent e) := by
  simp [agentStep, serviceStep, h]

theorem agentStep_service_clear {s : State} {e : Event} (h : s.pending e = false) :
    agentStep (.service e) s = .next s.silent := by
  simp [agentStep, serviceStep, h]

theorem step_service_set {s : State} {e : Event} {rest : List AgentStep} (h : s.agenda = .service e :: rest)
    (hp : s.pending e = true) :
    step s = exec (serviceInstr e s) (State.takeEvent e { s with agenda := rest }) := by
  rw [step_cons h, agentStep_service_set (by cases e <;> exact hp)]
  cases e <;> rfl

theorem agentStep_host_accepted {s : State} {op : OpWord} {d : Word} {i : Instr} (h : portAccepts op d = some i) :
    agentStep (.host op d) s = exec i s := by
  simp [agentStep, hostCommand, h]

theorem agentStep_host_illegal {s : State} {op : OpWord} {d : Word} (h : portAccepts op d = none) :
    agentStep (.host op d) s = .next (s.raise .illegal) := by
  simp [agentStep, hostCommand, h]

/-- What INIT does, by the legality of its operand. -/
theorem exec_init (n : Nat) (s : State) :
    exec (.init n) s = .next (if pprLegal n then (s.configure n).answer 0 else s.rejectConfig.raise .configError) := by
  by_cases h : pprLegal n = true <;> simp [exec, execInit, h]

/-- Everything an agent's step can do. -/
theorem agentStep_cases {a : AgentStep} {s t : State} (h : agentStep a s = .next t) :
    (a = .clock ∧ t = (s.clockStep Config.block).silent) ∨
    (∃ ch v, a = .sensor ch v ∧ t = (s.sensorStep ch v).silent) ∨
    (∃ op d, a = .host op d ∧ portAccepts op d = none ∧ t = s.raise .illegal) ∨
    (∃ d, a = .host 0x30#8 d ∧ pprLegal d.toNat = true ∧ t = (s.configure d.toNat).answer 0) ∨
    (∃ d, a = .host 0x30#8 d ∧ pprLegal d.toNat = false ∧ t = s.rejectConfig.raise .configError) ∨
    (∃ d, a = .host 0x40#8 d ∧ t = State.answer 0 { s with position := 0 }) ∨
    (∃ d, a = .host 0x50#8 d ∧ t = s.answer s.position) ∨
    (∃ d, a = .host 0x60#8 d ∧ t = s.answer (wrapU32 s.velocity)) ∨
    (∃ d, a = .host 0x70#8 d ∧ t = s.disarm.answer 0) ∨
    (∃ e, a = .service e ∧ s.pending e = false ∧ t = s.silent) ∨
    (a = .service .edgeA ∧ s.pendA = true ∧ t = ((s.takeEvent .edgeA).edge Config.block .a s.lvlB).silent) ∨
    (a = .service .edgeB ∧ s.pendB = true ∧ t = ((s.takeEvent .edgeB).edge Config.block .b s.lvlA).silent) ∨
    (a = .service .tick ∧ s.pendTick = true ∧ t = ((s.takeEvent .tick).tick Config.block).silent) := by
  cases a with
  | clock => cases h; exact .inl ⟨rfl, rfl⟩
  | sensor ch v => cases h; exact .inr (.inl ⟨ch, v, rfl, rfl⟩)
  | host op d =>
    cases hp : portAccepts op d with
    | none => rw [agentStep_host_illegal hp] at h; cases h; simp [hp]
    | some i =>
      rw [agentStep_host_accepted hp] at h
      rw [portAccepts_eq] at hp
      split_ifs at hp with h1 h2 h3 h4 h5 <;> cases hp
      · subst h1; rw [exec_init] at h; cases hl : pprLegal d.toNat <;> simp [hl] at h <;> subst h <;> simp [hl]
      all_goals (subst_vars; cases h; simp)
  | service e =>
    cases hp : s.pending e with
    | false => rw [agentStep_service_clear hp] at h; cases h; simp [hp]
    | true =>
      rw [agentStep_service_set hp] at h
      iterate 10 refine .inr ?_
      cases e
      · cases h; exact .inl ⟨rfl, hp, rfl⟩
      · cases h; exact .inr (.inl ⟨rfl, hp, rfl⟩)
      · cases h; exact .inr (.inr ⟨rfl, hp, rfl⟩)

end Sys2Proof.Machine
end

