-- ==== Sys2Proof/Laws/PerInstr.lean ====
section
/-! SUPPORT. Facts about each operation as syntax, one lemma for each constructor. -/

namespace Sys2Proof.Laws.EncodedFields

/-- The encoded word has `rsv` = 0b00, lies in a class from 0x1 to 0x7, and has a data word beside it exactly in format HD
(30_encoding.md R90 to R92). -/
def Statement (i : Instr) : Prop :=
  (encodeOp i).extractLsb' 2 2 = 0b00#2 ∧ (0x1#4).ule (opClass (encodeOp i)) = true ∧
    (opClass (encodeOp i)).ule 0x7#4 = true ∧ (opHasData (encodeOp i) = true ↔ i.format = .hd)

theorem edgeA (l : Bool) : Statement (.edgeA l) := by revert l; unfold Statement; decide
theorem edgeB (l : Bool) : Statement (.edgeB l) := by revert l; unfold Statement; decide
theorem tick : Statement .tick := by unfold Statement; decide
theorem init (n : Nat) : Statement (.init n) := by
  have h : encodeOp (.init n) = 0x30#8 := rfl
  simp only [Statement, h, Instr.format]; decide
theorem setHome : Statement .setHome := by unfold Statement; decide
theorem getPosition : Statement .getPosition := by unfold Statement; decide
theorem getVelocity : Statement .getVelocity := by unfold Statement; decide
theorem disarm : Statement .disarm := by unfold Statement; decide

end Sys2Proof.Laws.EncodedFields
end

