-- ==== Sys2Proof/Machine/Trace.lean ====
section
/-! DEFINITION. The textual syntax of operations, responses and trace lines (30_encoding.md R106, R108). Nothing else of the
machine reads it. -/

namespace Sys2Proof.Machine

/-- A bit as a trace writes it. -/
def bitText (b : Bool) : String := if b then "1" else "0"

/-- An operation as one line of text (30_encoding.md R106). -/
def instrText : Instr → String
  | .edgeA l => "EDGE_A l=" ++ bitText l
  | .edgeB l => "EDGE_B l=" ++ bitText l
  | .tick => "TICK"
  | .init n => "INIT " ++ toString n
  | .setHome => "SET_HOME"
  | .getPosition => "GET_POSITION"
  | .getVelocity => "GET_VELOCITY"
  | .disarm => "DISARM"

/-- A status by its name (30_encoding.md R98). -/
def statusText : Status → String
  | .ok => "OK"
  | .configError => "CONFIG_ERROR"
  | .illegal => "ILLEGAL"

/-- The prefix giving the `now_us` at which an operation is performed (30_encoding.md R106). -/
def timePrefix (s : State) : String := "@" ++ toString s.now.toNat ++ " "

/-- The suffix giving a response (30_encoding.md R106); the data word in decimal, assumption 10. -/
def responseSuffix (r : Response) : String := " -> " ++ statusText r.status ++ " " ++ toString r.dataOut.toNat

/-- A channel's name in a `PIN` line. -/
def channelText : Channel → String
  | .a => "A"
  | .b => "B"

/-- An agent step as one line of text (30_encoding.md R106, R108); a host word that is no host operation has no mnemonic and
is written as a bare word. -/
def agentText (s : State) : AgentStep → String
  | .clock => "ADVANCE 1"
  | .sensor ch v => "PIN " ++ channelText ch ++ "=" ++ bitText v
  | .service e => timePrefix s ++ instrText (serviceInstr e s)
  | .host op dataIn =>
    match portAccepts op dataIn with
    | some i => timePrefix s ++ instrText i
    | none => timePrefix s ++ "host word " ++ toString op.toNat

/-- The trace line of an agent step taken in `s` with the response it got. -/
def traceLine (s : State) (a : AgentStep) (r : Option Response) : String :=
  match r with
  | some v => agentText s a ++ responseSuffix v
  | none => agentText s a

end Sys2Proof.Machine
end

