-- ==== Sys2Proof/Tests/Slice0.lean ====
section
/-! SUPPORT. Tests on words and values taken from the spec, and for every obligation with hypotheses the states and operands
that meet them. `E1`, `F3`, `T5`, `S4`, `H11`, `V6` and the like name the vectors of 95_test_vectors.md. -/

namespace Sys2Proof.Tests

open Sys2Proof Sys2Proof.Machine

/-! ### Well-formedness and decoding -/

theorem test_wellFormed_refuses_wide_operand :
    Instr.wellFormed (.init (2 ^ 32)) = false ∧ Instr.wellFormed (.init (2 ^ 32 - 1)) = true := by decide

/-- 30_encoding.md R92 and R105: the words written out bit by bit. -/
theorem test_decode_words :
    decode 0b00010000#8 0 = .ok (.edgeA false) ∧ decode 0b00010010#8 0 = .ok (.edgeA true) ∧
    decode 0b00010001#8 0 = .ok (.edgeB false) ∧ decode 0b00010011#8 0 = .ok (.edgeB true) ∧
    decode 0b00100000#8 0 = .ok .tick ∧
    decode 0b00110000#8 0b00000000000000000000000001100100#32 = .ok (.init 100) ∧
    decode 0b01000000#8 0 = .ok .setHome ∧ decode 0b01010000#8 0 = .ok .getPosition ∧
    decode 0b01100000#8 0 = .ok .getVelocity ∧ decode 0b01110000#8 0 = .ok .disarm := ⟨rfl, rfl, rfl, rfl, rfl, rfl, rfl, rfl, rfl, rfl⟩

/-- 95_test_vectors.md 2.1: the reserved words, by reason. -/
theorem test_decode_reserved :
    decode 0x14#8 0 = .error .edgeReservedBits ∧ decode 0x1C#8 0 = .error .edgeReservedBits ∧
    decode 0x31#8 100 = .error .lowNibble ∧ decode 0x7F#8 0 = .error .lowNibble ∧
    decode 0x00#8 0 = .error .unassignedClass ∧ decode 0x80#8 0 = .error .unassignedClass ∧
    decode 0xFF#8 0 = .error .unassignedClass := ⟨rfl, rfl, rfl, rfl, rfl, rfl, rfl⟩

/-- The table words in the host's bit numbering: INIT's data word counts on from bit 8. -/
theorem test_table_words :
    decodeTableWord 8 0x12 = some (.edgeA true) ∧ decodeTableWord 8 0x13 = some (.edgeB true) ∧
    decodeTableWord 8 0x20 = some .tick ∧ decodeTableWord 8 0x30 = some (.init 0) ∧
    decodeTableWord 40 0x6430 = some (.init 100) ∧ decodeTableWord 8 0x14 = none := ⟨rfl, rfl, rfl, rfl, rfl, rfl⟩

/-! ### A small state -/

/-- An armed block of 100 counts in slow mode, in the conditions of 95_test_vectors.md 2.2. -/
def base : State := { State.reset with ppr := 100, armed := true }

/-- A command, a level report or another agent step that comes next in `base`. -/
def baseThen (a : AgentStep) : State := { base with agenda := [a] }

/-! ### Edges -/

theorem test_edge_slow_reversal_E1_E10 :
    (let t := State.edge Config.ex .a false { base with nowUs := 10000 }
     t.position = 99 ∧ t.dirVec = .cw ∧ t.speedPrev = 0 ∧ t.speedCur = 75 ∧ t.lastEdgeUs = 10000 ∧ t.dirChanged = false) ∧
    (let t := State.edge { Config.ex with filterCostUs := 100 } .a true { base with position := 5, speedCur := 100, nowUs := 50 }
     t.position = 6 ∧ t.speedPrev = 100 ∧ t.speedCur = 7562 ∧ t.lastEdgeUs = 4294967246) := by decide

theorem test_edge_slow_channel_b_E3_E4 :
    (let t := State.edge Config.ex .b false { base with position := 99, speedCur := 37, lastEdgeUs := 10000, nowUs := 20000 }
     t.position = 0 ∧ t.dirVec = .ccw ∧ t.speedPrev = 37 ∧ t.speedCur = 60 ∧ t.lastEdgeUs = 20000) ∧
    (let t := State.edge Config.ex .b true { base with position := 5, speedCur := 400, lastEdgeUs := 1000, nowUs := 3000 }
     t.position = 4 ∧ t.dirVec = .cw ∧ t.speedPrev = 400 ∧ t.speedCur = 475 ∧ t.lastEdgeUs = 3000) := by decide

theorem test_edge_zero_interval_and_wrapped_time_E5_E7 :
    (State.edge Config.ex .a true { base with position := 5, speedCur := 100, lastEdgeUs := 7000, nowUs := 7000 }).speedCur = 375062 ∧
    (State.edge Config.ex .a true { base with position := 5, speedCur := 100, lastEdgeUs := 4294966296, nowUs := 1000 }).speedCur = 250 := by
  decide

theorem test_edge_fast_F1_F2_F3_F4 :
    (let t := State.edge Config.ex .a true { base with
        fastMode := true, position := 10, pulsesPerSample := 3, lastEdgeUs := 100, dirVec := .cw, nowUs := 5000 }
     t.position = 11 ∧ t.pulsesPerSample = 4 ∧ t.lastEdgeUs = 5000 ∧ t.dirVec = .cw) ∧
    (State.edge Config.ex .a false { base with fastMode := true }).pulsesPerSample.toInt = -1 ∧
    (State.edge Config.ex .b false { base with fastMode := true, pulsesPerSample := 2147483647 }).pulsesPerSample.toInt = -2147483648 ∧
    (State.edge Config.ex .b true { base with fastMode := true, pulsesPerSample := 2147483648 }).pulsesPerSample = 2147483647 := by
  decide

/-- The meanings are these operations on the block's own parameters. -/
theorem test_exec_edges (l : Bool) (s : State) :
    exec (.edgeA l) s = .next (State.edge Config.block .a l s).silent ∧
    exec (.edgeB l) s = .next (State.edge Config.block .b l s).silent := ⟨rfl, rfl⟩

/-! ### The filter and TICK -/

/-- 95_test_vectors.md 2.4: a normal update, a reversal, a zero period, saturation. -/
theorem test_updateSpeed_vectors :
    (State.updateSpeed 16 16000 { base with speedCur := 375 }).speedCur = 609 ∧
    (State.updateSpeed 1 10000 { base with dirChanged := true }).speedCur = 75 ∧
    (State.updateSpeed 1 0 base).speedCur = 375000 ∧
    (State.updateSpeed 2147483648 16000 base).speedCur = 805306367 := by decide

theorem test_tick_fast_T2_T5_T7 :
    (let t := State.tick Config.ex { base with fastMode := true, pulsesPerSample := 4294967280, speedCur := 375 }
     t.dirVec = .cw ∧ t.speedPrev = 375 ∧ t.speedCur = 843 ∧ t.pulsesPerSample = 0 ∧ t.fastMode = true) ∧
    (let t := State.tick Config.ex { base with fastMode := true, speedCur := 200, dirVec := .cw }
     t.dirVec = .ccw ∧ t.speedPrev = 200 ∧ t.speedCur = 50 ∧ t.fastMode = false) ∧
    (State.tick Config.ex { base with
      fastMode := true, pulsesPerSample := 2147483648, speedCur := 500, dirVec := .cw }).speedCur = 805306680 := by decide

theorem test_tick_slow_S3_S4_S7_S11 :
    (State.tick Config.ex { base with speedCur := 40, nowUs := 480000 }).speedCur = 40 ∧
    (let t := State.tick Config.ex { base with speedCur := 40, nowUs := 480001 }
     t.speedPrev = 40 ∧ t.speedCur = 0 ∧ t.fastMode = false) ∧
    (let t := State.tick Config.ex { base with speedCur := 101, nowUs := 1000000000 }
     t.speedCur = 101 ∧ t.fastMode = true) ∧
    stalled ⟨2147483647, 4294967294, 0⟩ { base with nowUs := 4294967295 } = false := by decide

/-! ### Host commands -/

theorem test_init_H7_H3 :
    (let t := State.configure 100 { base with
        position := 57, speedCur := 300, fastMode := true, pendA := true, pendB := true, pendTick := true
        tickTimer := 9000, nowUs := 70000 }
     t = { base with lastEdgeUs := 70000, nowUs := 70000 }) ∧
    exec (.init 0x80000000) { base with position := 57, pendA := true } =
      .next { base with position := 57, armed := false, cfgError := true, response := some ⟨.configError, 0⟩ } := by
  constructor
  · decide
  · rfl

theorem test_reads_H10_H11_H14 :
    exec .getPosition { base with position := 99 } = .next { base with position := 99, response := some ⟨.ok, 99⟩ } ∧
    exec .getVelocity { base with speedCur := 75, dirVec := .cw } =
      .next { base with speedCur := 75, dirVec := .cw, response := some ⟨.ok, 0xFFFFFFB5⟩ } ∧
    exec .getVelocity { base with speedCur := 2147483647, dirVec := .cw } =
      .next { base with speedCur := 2147483647, dirVec := .cw, response := some ⟨.ok, 0x80000001⟩ } := ⟨rfl, rfl, rfl⟩

theorem test_home_and_disarm_H8_H15 :
    exec .setHome { base with position := 57 } = .next { base with response := some ⟨.ok, 0⟩ } ∧
    exec .disarm { base with pendA := true, tickTimer := 9 } =
      .next { base with armed := false, tickTimer := 9, response := some ⟨.ok, 0⟩ } := ⟨rfl, rfl⟩

theorem test_tick_word_from_host_H17 :
    step (baseThen (.host 0x20 0)) = .next { base with response := some ⟨.illegal, 0⟩ } := rfl

/-! ### Sensor and Clock -/

theorem test_sensor_V1_V3_V4_V5 :
    State.sensorStep .a true base = { base with lvlA := true, pendA := true } ∧
    State.sensorStep .a true { base with lvlA := true } = { base with lvlA := true } ∧
    State.sensorStep .b false { base with lvlB := true } = base ∧
    State.sensorStep .b true { base with armed := false } = { base with armed := false, lvlB := true } := by decide

theorem test_clock_V6_V8_V9 :
    State.clockStep Config.ex { base with tickTimer := 15999 } = { base with pendTick := true, nowUs := 1 } ∧
    State.clockStep Config.ex { base with armed := false, tickTimer := 123 } =
      { base with armed := false, tickTimer := 123, nowUs := 1 } ∧
    (State.clockStep Config.ex { base with nowUs := 4294967295 }).nowUs = 0 := by decide

/-! ### The step and the table words -/

/-- Each table word, offered after reset, is the next step's: a service word through its latch, a host word on the port. -/
theorem test_withFetchWord :
    step (State.reset.withFetchWord 8 0x12) = exec (.edgeA true) { State.reset with lvlB := true } ∧
    step (State.reset.withFetchWord 8 0x13) = exec (.edgeB true) { State.reset with lvlA := true } ∧
    step (State.reset.withFetchWord 8 0x20) = exec .tick State.reset ∧
    step (State.reset.withFetchWord 40 0x6430) = exec (.init 100) State.reset ∧
    step (State.reset.withFetchWord 8 0x40) = exec .setHome State.reset ∧
    step (State.reset.withFetchWord 8 0x50) = exec .getPosition State.reset ∧
    step (State.reset.withFetchWord 8 0x60) = exec .getVelocity State.reset ∧
    step (State.reset.withFetchWord 8 0x70) = exec .disarm State.reset := ⟨rfl, rfl, rfl, rfl, rfl, rfl, rfl, rfl⟩

/-- Lines 3, 4 and 2 of program P1 (95_test_vectors.md 3.1), in the notation of 30_encoding.md R106 and R108. -/
theorem test_trace_text :
    traceLine { base with nowUs := 10000 } (.service .edgeA) none = "@10000 EDGE_A l=0" ∧
    traceLine { base with nowUs := 5 } (.host 0x30 100) (some ⟨.ok, 0⟩) = "@5 INIT 100 -> OK 0" ∧
    traceLine base .clock none = "ADVANCE 1" ∧ traceLine base (.sensor .a true) none = "PIN A=1" := by decide

/-! ### States and operands that meet the hypotheses of the obligations -/

theorem witness_DecodeInvertsEncode :
    (∀ i ∈ [Instr.edgeA true, .edgeB false, .tick, .init 0, .setHome, .getPosition, .getVelocity, .disarm], i.wellFormed = true) ∧
    Instr.wellFormed (.init 4294967295) = true := by decide

theorem witness_EncodeInvertsDecode :
    decode 0x30 0xFFFFFFFF = .ok (.init 4294967295) ∧ opHasData 0x30 = true ∧
    decode 0x13 0xFFFFFFFF = .ok (.edgeB true) ∧ opHasData 0x13 = false := ⟨rfl, rfl, rfl, rfl⟩

theorem witness_DecodeByMatchAndMask :
    (∀ op ∈ [0x10#8, 0x11#8, 0x12#8, 0x13#8], op &&& 0xFC#8 = 0x10#8) ∧
    (∀ op ∈ [0x20#8, 0x30#8, 0x40#8, 0x50#8, 0x60#8, 0x70#8], op &&& 0xFF#8 = op) ∧
    (∀ op ∈ [0x0F#8, 0x14#8, 0x21#8, 0x71#8, 0xFF#8],
      op &&& 0xFC#8 ≠ 0x10#8 ∧ op ∉ [0x20#8, 0x30#8, 0x40#8, 0x50#8, 0x60#8, 0x70#8]) := by decide

theorem witness_ReservedWords :
    (baseThen (.host 0x31 100)).agenda = .host 0x31 100 :: [] ∧ ∃ r, decode 0x31 100 = .error r := ⟨rfl, _, rfl⟩

theorem witness_StepRunsDecodedOperation :
    ((baseThen (.host 0x30 100)).agenda = .host 0x30 100 :: [] ∧ decode 0x30 100 = .ok (.init 100) ∧
      Instr.issuer (.init 100) = .host) ∧
    (let s : State := { baseThen (.service .edgeB) with pendB := true, lvlA := true }
     s.agenda = .service .edgeB :: [] ∧ s.pending .edgeB = true ∧ decode (serviceWord .edgeB s) 0 = .ok (.edgeB true)) ∧
    base.agenda = [] := ⟨⟨rfl, rfl, rfl⟩, ⟨rfl, rfl, rfl⟩, rfl⟩

theorem witness_IllegalHostCommand :
    (baseThen (.host 0x14 0)).agenda = .host 0x14 0 :: [] ∧ (∃ r, decode 0x14 0 = .error r) ∧
    (∃ l, decode 0x12 0 = .ok (.edgeA l)) ∧ (∃ l, decode 0x11 0 = .ok (.edgeB l)) ∧ decode 0x20 0 = .ok .tick :=
  ⟨rfl, ⟨_, rfl⟩, ⟨_, rfl⟩, ⟨_, rfl⟩, rfl⟩

/-- The last word below the block's period, whatever the period is. -/
def lastTimer : Word := BitVec.ofNat 32 Config.block.tickPeriodLess1.val

theorem lastTimer_toNat : lastTimer.toNat + 1 = Config.block.tickPeriodUs := by
  have := Config.block.tickPeriodLess1.isLt
  simp only [lastTimer, Config.tickPeriodUs, BitVec.toNat_ofNat]
  omega

theorem witness_ClockStepCounts :
    (baseThen .clock).agenda = .clock :: [] ∧
    ({ baseThen .clock with armed := false } : State).armed = false ∧
    (let s : State := { baseThen .clock with tickTimer := 0xFFFFFFFF }
     s.armed = true ∧ ¬ s.tickTimer.toNat + 1 = Config.block.tickPeriodUs) ∧
    (let s : State := { baseThen .clock with tickTimer := lastTimer }
     s.armed = true ∧ s.tickTimer.toNat + 1 = Config.block.tickPeriodUs) := by
  refine ⟨rfl, rfl, ⟨rfl, ?_⟩, rfl, lastTimer_toNat⟩
  have := Config.block.tickPeriodLess1.isLt
  show ¬ 4294967295 + 1 = Config.block.tickPeriodLess1.val + 1
  omega

theorem witness_TickRaisedEveryPeriod :
    let s : State := { base with tickTimer := lastTimer, agenda := advance 3 ++ [.sensor .a true] }
    s.armed = true ∧ s.tickTimer.toNat < Config.block.tickPeriodUs ∧ s.agenda = advance 3 ++ [.sensor .a true] := by
  refine ⟨rfl, ?_, rfl⟩
  have := lastTimer_toNat
  show lastTimer.toNat < _
  omega

theorem witness_SensorStepTracksLevel :
    (baseThen (.sensor .a true)).agenda = .sensor .a true :: [] ∧
    (baseThen (.sensor .b false)).agenda = .sensor .b false :: [] := ⟨rfl, rfl⟩

theorem witness_SecondEdgeIsLost :
    base.armed = true ∧ base.level .a = false ∧ base.level .b = false := ⟨rfl, rfl, rfl⟩

theorem witness_ServiceStepTakesEvent :
    let s : State := { base with pendA := true, pendB := true, pendTick := true }
    (∀ e, State.agenda { s with agenda := [.service e] } = .service e :: []) ∧
    s.pendA = true ∧ s.pendB = true ∧ s.pendTick = true := ⟨fun _ => rfl, rfl, rfl, rfl⟩

theorem witness_ServiceOfClearLatchIdles :
    (baseThen (.service .tick)).agenda = .service .tick :: [] ∧ (baseThen (.service .tick)).pending .tick = false := ⟨rfl, rfl⟩

theorem witness_DirectionUsesLevelAtService :
    let s : State := { base with position := 99, pendA := true, pendB := true }
    s.position.toNat < s.ppr.toNat ∧ s.pendA = true ∧ s.pendB = true ∧
    State.agenda { s with agenda := [.sensor .b true, .service .edgeA] } = .sensor .b true :: .service .edgeA :: [] ∧
    State.agenda { s with agenda := [.sensor .a false, .service .edgeB] } = .sensor .a false :: .service .edgeB :: [] := by decide

theorem witness_AnyEnabledAgentMayBeNext :
    Enabled .clock base ∧ Enabled (.sensor .a true) base ∧ Enabled (.host 0xFF 0) base ∧
    Enabled (.service .edgeA) { base with pendA := true, pendTick := true } := ⟨trivial, trivial, trivial, rfl⟩

/-- The invariants hold in the armed state, in an armed state at the far end of every range, and after reset. -/
theorem witness_InvariantsKept :
    base.Inv Config.block ∧
    State.Inv Config.block { base with
      ppr := 0x7FFFFFFF, position := 0x7FFFFFFE, speedCur := 0x7FFFFFFF, speedPrev := 0x7FFFFFFF, fastMode := true
      pulsesPerSample := 0x80000000, tickTimer := lastTimer, pendA := true, pendTick := true
      agenda := [.service .edgeA] } ∧
    ∃ t, step (baseThen (.service .tick)) = .next t := by
  have h := lastTimer_toNat
  refine ⟨⟨fun _ => by decide, rfl, by decide, by decide, fun _ => rfl, ?_, fun h => absurd h (by decide)⟩,
    ⟨fun _ => by decide, rfl, by decide, by decide, fun h => absurd h (by decide), ?_, fun h => absurd h (by decide)⟩, _, rfl⟩
  · show 0 < Config.block.tickPeriodLess1.val + 1
    omega
  · show lastTimer.toNat < _
    omega

theorem witness_PositionStaysBelowBit31 :
    base.Inv Config.block ∧ base.position.toNat < 2 ^ 31 ∧ base.ppr.toNat < 2 ^ 31 ∧
    ∃ t, step (baseThen .clock) = .next t :=
  ⟨witness_InvariantsKept.1, by decide, by decide, _, rfl⟩

theorem witness_EdgePaths :
    base.fastMode = false ∧ ({ base with fastMode := true } : State).fastMode = true := ⟨rfl, rfl⟩

theorem witness_EdgeMovesPositionModuloPpr :
    base.position.toNat < base.ppr.toNat ∧
    State.position { base with position := 99 } = 99 ∧ (99 : Word).toNat < base.ppr.toNat := by decide

theorem witness_SlowEdgeCostCompensation :
    (∀ k, let s : State := { base with agenda := advance k ++ [] }; s.fastMode = false ∧ s.agenda = advance k ++ []) ∧
    ∃ t, exec (.edgeA true) base = .next t := ⟨fun _ => ⟨rfl, rfl⟩, _, rfl⟩

theorem witness_SilenceMeasuredModulo :
    let s : State := { base with agenda := advance 5 ++ [.service .tick] }
    s.agenda = advance 5 ++ [.service .tick] := rfl

theorem witness_FilterStatements :
    State.speedCur { base with speedCur := 0x7FFFFFFF } = 0x7FFFFFFF ∧ (0x7FFFFFFF : Word).toNat ≤ 2 ^ 31 - 1 ∧
    base.speedCur.toNat ≤ 2 ^ 31 - 1 ∧ base.dirChanged = false := by decide

theorem witness_TickFastMode :
    let s : State := { base with fastMode := true, dirVec := .cw }
    s.fastMode = true ∧ s.pulsesPerSample = 0 ∧ s.dirVec = .cw := ⟨rfl, rfl, rfl⟩

/-- Both sides of the stall, whatever the parameters are: at speed 0 with no silence there is none; where the threshold is
the block's own, a speed equal to it stalls after one microsecond. -/
theorem witness_TickSlowMode :
    (base.fastMode = false ∧ ¬ (base.speedCur.toNat ≤ Config.block.threshold ∧
      (base.nowUs - base.lastEdgeUs).toNat >
        (Config.block.threshold - base.speedCur.toNat) * Config.block.tickPeriodUs / 2)) ∧
    (let s : State := { base with speedCur := BitVec.ofNat 32 Config.block.threshold, nowUs := 1 }
     s.fastMode = false ∧ s.speedCur.toNat ≤ Config.block.threshold ∧
      (s.nowUs - s.lastEdgeUs).toNat > (Config.block.threshold - s.speedCur.toNat) * Config.block.tickPeriodUs / 2) := by
  have ht := Config.block.fastThreshold.isLt
  have e : (BitVec.ofNat 32 Config.block.threshold).toNat = Config.block.threshold := by
    rw [BitVec.toNat_ofNat, Config.threshold]
    omega
  refine ⟨⟨rfl, fun h => absurd h.2 (Nat.not_lt_zero _)⟩, rfl, ?_, ?_⟩
  · show (BitVec.ofNat 32 Config.block.threshold).toNat ≤ _
    omega
  · show 1 > (Config.block.threshold - (BitVec.ofNat 32 Config.block.threshold).toNat) * Config.block.tickPeriodUs / 2
    rw [e]
    simp

theorem witness_StallScenario : base.fastMode = false ∧ base.speedCur = 0 := ⟨rfl, rfl⟩

theorem witness_ZeroSpeedHoldsUntilEdge :
    let mid : List AgentStep := [.clock, .service .tick, .sensor .a true, .host 0x30 7]
    let s : State := { base with agenda := mid ++ .host 0x60#8 0 :: [] }
    s.fastMode = false ∧ s.speedCur = 0 ∧ (∀ a ∈ mid, isEdgeService a = false) ∧ s.agenda = mid ++ .host 0x60#8 0 :: [] := by
  decide

theorem witness_InitCommand :
    (1 ≤ 1 ∧ 1 ≤ 2 ^ 31 - 1) ∧ (1 ≤ 2147483647 ∧ 2147483647 ≤ 2 ^ 31 - 1) ∧ (2147483648 = 0 ∨ 2 ^ 31 - 1 < 2147483648) ∧
    (baseThen (.host 0x30#8 2147483648)).agenda = .host 0x30#8 2147483648 :: [] ∧
    State.ppr { base with ppr := 1 } = 1 ∧ base.position = 0 := by decide

theorem witness_HostCommands :
    (baseThen (.host 0x40#8 0)).agenda = .host 0x40#8 0 :: [] ∧ (baseThen (.host 0x50#8 0)).agenda = .host 0x50#8 0 :: [] ∧
    (baseThen (.host 0x60#8 0)).agenda = .host 0x60#8 0 :: [] ∧ (baseThen (.host 0x70#8 0)).agenda = .host 0x70#8 0 :: [] ∧
    1 ≤ base.ppr.toNat ∧ base.speedCur.toNat ≤ 2 ^ 31 - 1 := by decide

theorem witness_GetPositionCommand :
    base.Inv Config.block ∧ base.armed = true ∧
    (∀ a ∈ [AgentStep.sensor .a true, .clock, .service .edgeA, .host 0x40 0, .host 0x31 5], isInitCommand a = false) :=
  ⟨witness_InvariantsKept.1, rfl, by decide⟩

theorem witness_VelocityReadoutExact :
    (0x7FFFFFFF : Word).toNat ≤ 2 ^ 31 - 1 ∧ exec .getVelocity { base with speedCur := 0x7FFFFFFF } =
      .next { base with speedCur := 0x7FFFFFFF, response := some ⟨.ok, 0x7FFFFFFF⟩ } := ⟨by decide, rfl⟩

theorem witness_OneResponsePerHostCommand :
    (∃ t, step (baseThen (.host 0x50 0)) = .next t) ∧ (baseThen (.host 0x50 0)).nextAgent = .host 0x50 0 ∧
    (∃ t, step (baseThen .clock) = .next t) ∧ (∀ op d, (baseThen .clock).nextAgent ≠ .host op d) :=
  ⟨⟨_, rfl⟩, rfl, ⟨_, rfl⟩, fun _ _ h => AgentStep.noConfusion h⟩

theorem witness_ReadsAreIdempotent :
    let s : State := { base with agenda := [.host 0x60 0, .host 0x60 1] }
    ((0x60 : OpWord) = 0x50#8 ∨ (0x60 : OpWord) = 0x60#8) ∧ s.agenda = .host 0x60 0 :: .host 0x60 1 :: [] := by decide

theorem witness_HomeReset :
    let mid : List AgentStep := [.sensor .a true, .clock, .service .tick]
    let s : State := { base with position := 57, agenda := .host 0x40#8 0 :: mid ++ .host 0x50#8 0 :: [] }
    (∀ a ∈ mid, isEdgeService a = false) ∧ s.agenda = .host 0x40#8 0 :: mid ++ .host 0x50#8 0 :: [] := by decide

theorem witness_DisarmedStaysQuiet :
    let mid : List AgentStep := [.sensor .a true, .clock, .service .edgeA, .host 0x40 0, .host 0xFF 0]
    let s : State := { base with armed := false, agenda := mid ++ [.host 0x30 1] }
    s.armed = false ∧ (∀ e, s.pending e = false) ∧ (∀ a ∈ mid, isInitCommand a = false) ∧ s.agenda = mid ++ [.host 0x30 1] :=
  ⟨rfl, fun e => by cases e <;> rfl, by decide, rfl⟩

theorem witness_HiddenRegistersUnobservable :
    base.SameButHidden { base with speedPrev := 7, cfgError := true } := rfl

theorem witness_RegistersChangeOnlyByTheirWriters :
    ∃ t, step (baseThen (.host 0x30 3)) = .next t ∧ t.ppr ≠ base.ppr := ⟨_, rfl, by decide⟩

/-- What serving a pending tick leaves of `base`: slow mode at speed 0 stays, in every configuration. -/
theorem tick_of_base : agentStep (.service .tick) { base with pendTick := true } = .next base := by
  have hs : stalled Config.block base = false := by
    have : base.elapsed = 0 := by decide
    simp [stalled, this]
  rw [agentStep_service_set rfl]
  show Host.Outcome.next (State.tick Config.block base).silent = _
  rw [State.tick_slow Config.block base rfl, hs]
  simp [fastSelect, State.silent, base, State.reset]

/-- A pending tick is served in the first step, and the Sensor reports a low level ever after. -/
def servedTick : Execution where
  st n := if n = 0 then { base with pendTick := true } else base
  act n := if n = 0 then .service .tick else .sensor .a false
  follows n := by
    cases n with
    | zero => exact tick_of_base
    | succ n => rfl

theorem witness_FairServiceClearsLatches : servedTick.WeaklyFair ∧ (servedTick.st 0).pending .tick = true := by
  refine ⟨?_, rfl⟩
  intro e n h
  have := h (n + 1) (by omega)
  cases e <;> exact absurd this (by simp [servedTick, State.pending, base, State.reset])

end Sys2Proof.Tests
end

section
/-! PROOF. The family of 30_encoding.md: the decoder by match and mask, the reserved words, the status codes, and the
response that each agent step leaves. -/

namespace Sys2Proof

/-! ### The decoder, word by word -/

/-- The decoder's edge test on bits 7:2 is the mask test of format E (30_encoding.md R94). -/
theorem opEdgeBits_eq_iff_mask : ∀ op : OpWord, opEdgeBits op = 0b000100#6 ↔ op &&& 0xFC#8 = 0x10#8 := by decide

theorem decode_edge {op : OpWord} (h : op &&& 0xFC#8 = 0x10#8) (d : Word) :
    decode op d = .ok (if op.getLsbD 0 then .edgeB (op.getLsbD 1) else .edgeA (op.getLsbD 1)) := by
  rw [decode, if_pos ((opEdgeBits_eq_iff_mask op).2 h)]; rfl

@[simp] theorem decode_tick (d : Word) : decode 0x20#8 d = .ok .tick := rfl
@[simp] theorem decode_init (d : Word) : decode 0x30#8 d = .ok (.init d.toNat) := rfl
@[simp] theorem decode_setHome (d : Word) : decode 0x40#8 d = .ok .setHome := rfl
@[simp] theorem decode_getPosition (d : Word) : decode 0x50#8 d = .ok .getPosition := rfl
@[simp] theorem decode_getVelocity (d : Word) : decode 0x60#8 d = .ok .getVelocity := rfl
@[simp] theorem decode_disarm (d : Word) : decode 0x70#8 d = .ok .disarm := rfl

theorem decode_reserved {op : OpWord} (he : op &&& 0xFC#8 ≠ 0x10#8)
    (hw : op ∉ [0x20#8, 0x30#8, 0x40#8, 0x50#8, 0x60#8, 0x70#8]) (d : Word) :
    decode op d = .error (reservedReason op) := by
  have hbits : opEdgeBits op ≠ 0b000100#6 := mt (opEdgeBits_eq_iff_mask op).1 he
  simp only [List.mem_cons, List.not_mem_nil, or_false, not_or] at hw
  obtain ⟨h2, h3, h4, h5, h6, h7⟩ := hw
  simp only [decode, hbits, h2, h3, h4, h5, h6, h7, if_false]

/-- The ten words of 30_encoding.md R92: the four edge words and the six words matched whole. -/
def assignedWords : List OpWord :=
  [0x10#8, 0x11#8, 0x12#8, 0x13#8, 0x20#8, 0x30#8, 0x40#8, 0x50#8, 0x60#8, 0x70#8]

theorem mem_assignedWords_iff_mask : ∀ op : OpWord, op ∈ assignedWords ↔
    op &&& 0xFC#8 = 0x10#8 ∨ op ∈ [0x20#8, 0x30#8, 0x40#8, 0x50#8, 0x60#8, 0x70#8] := by decide

/-- The fields that make a word reserved (30_encoding.md R103), against the list of the words that are not. -/
theorem not_mem_assignedWords_iff_fields : ∀ op : OpWord, op ∉ assignedWords ↔
    (op.toNat / 16 = 0 ∨ 8 ≤ op.toNat / 16 ∨ (op.toNat / 16 = 1 ∧ op.toNat / 4 % 4 ≠ 0) ∨
      (2 ≤ op.toNat / 16 ∧ op.toNat / 16 ≤ 7 ∧ op.toNat % 16 ≠ 0)) := by decide

theorem decode_of_mem_assignedWords {op : OpWord} (h : op ∈ assignedWords) (d : Word) :
    ∃ i, decode op d = .ok i := by
  rcases (mem_assignedWords_iff_mask op).1 h with he | hw
  · exact ⟨_, decode_edge he d⟩
  · simp only [List.mem_cons, List.not_mem_nil, or_false] at hw
    rcases hw with rfl | rfl | rfl | rfl | rfl | rfl <;> exact ⟨_, rfl⟩

theorem decode_of_not_mem_assignedWords {op : OpWord} (h : op ∉ assignedWords) (d : Word) :
    decode op d = .error (reservedReason op) := by
  rw [mem_assignedWords_iff_mask, not_or] at h
  obtain ⟨he, hw⟩ := h
  exact decode_reserved he hw d

theorem decode_eq_error_iff (op : OpWord) (d : Word) :
    (∃ r, decode op d = .error r) ↔ op ∉ assignedWords := by
  refine ⟨fun ⟨r, hr⟩ hm => ?_, fun h => ⟨_, decode_of_not_mem_assignedWords h d⟩⟩
  obtain ⟨i, hi⟩ := decode_of_mem_assignedWords hm d
  rw [hi] at hr; cases hr

theorem decode_isNone_eq (op : OpWord) (d : Word) :
    (decode op d).toOption.isNone = decide (op ∉ assignedWords) := by
  by_cases h : op ∈ assignedWords
  · obtain ⟨i, hi⟩ := decode_of_mem_assignedWords h d
    simp [hi, h, Except.toOption]
  · simp [decode_of_not_mem_assignedWords h d, h, Except.toOption]

theorem ofNat_mem_assignedWords_iff {n : Nat} (hn : n < 256) :
    BitVec.ofNat 8 n ∈ assignedWords ↔ n ∈ assignedWords.map BitVec.toNat := by
  rw [List.mem_map]
  constructor
  · intro h
    exact ⟨_, h, by rw [BitVec.toNat_ofNat]; omega⟩
  · rintro ⟨op, h, rfl⟩
    rwa [BitVec.ofNat_toNat, BitVec.setWidth_eq]

/-- Of 256 words all but the ten assigned ones are reserved. -/
theorem length_reserved (d : Word) :
    ((List.range 256).filter (fun n => (decode (BitVec.ofNat 8 n) d).toOption.isNone)).length = 246 := by
  rw [← List.toFinset_card_of_nodup (List.nodup_range.filter _)]
  have hset : ((List.range 256).filter (fun n => (decode (BitVec.ofNat 8 n) d).toOption.isNone)).toFinset =
      Finset.range 256 \ (assignedWords.map BitVec.toNat).toFinset := by
    ext n
    simp only [List.mem_toFinset, List.mem_filter, List.mem_range, decode_isNone_eq, decide_eq_true_eq,
      Finset.mem_sdiff, Finset.mem_range]
    exact and_congr_right fun hn => not_congr (ofNat_mem_assignedWords_iff hn)
  have hsub : (assignedWords.map BitVec.toNat).toFinset ⊆ Finset.range 256 := by
    intro n hn
    obtain ⟨op, _, rfl⟩ := List.mem_map.1 (List.mem_toFinset.1 hn)
    exact Finset.mem_range.2 op.isLt
  rw [hset, Finset.card_sdiff_of_subset hsub, Finset.card_range,
    List.toFinset_card_of_nodup (by decide)]
  rfl

/-! ### What the command port turns away -/

theorem portAccepts_of_error {op : OpWord} {d : Word} {r : Reserved} (h : decode op d = .error r) :
    portAccepts op d = none := by
  simp [portAccepts, h]

theorem portAccepts_of_serviceEngine {op : OpWord} {d : Word} {i : Instr} (h : decode op d = .ok i)
    (hi : i.issuer = .serviceEngine) : portAccepts op d = none := by
  simp [portAccepts, h, hi]

theorem portAccepts_edge {op : OpWord} (h : op &&& 0xFC#8 = 0x10#8) (d : Word) : portAccepts op d = none :=
  portAccepts_of_serviceEngine (decode_edge h d) (by split <;> rfl)

theorem portAccepts_tick (d : Word) : portAccepts 0x20#8 d = none :=
  portAccepts_of_serviceEngine (decode_tick d) rfl

end Sys2Proof

namespace Sys2Proof.Machine

/-- The word that the service engine builds decodes to the operation it performs (30_encoding.md R102). -/
theorem decode_serviceWord (e : Event) (s : State) (d : Word) :
    decode (serviceWord e s) d = .ok (serviceInstr e s) := by
  cases e with
  | edgeA => cases h : s.lvlB <;> simp only [serviceWord, serviceInstr, h] <;> rfl
  | edgeB => cases h : s.lvlA <;> simp only [serviceWord, serviceInstr, h] <;> rfl
  | tick => exact decode_tick d

theorem step_host_illegal {s : State} {op : OpWord} {d : Word} {rest : List AgentStep}
    (h : s.agenda = .host op d :: rest) (hp : portAccepts op d = none) :
    step s = .next { s with agenda := rest, response := some ⟨.illegal, 0⟩ } := by
  rw [step_cons h, agentStep_host_illegal hp]; rfl

/-! ### The response of a step -/

/-- The status of a host command, from its two words alone (30_encoding.md R98, 60_exceptions.md R270). -/
def commandStatus (op : OpWord) (d : Word) : Status :=
  if op = 0x30#8 then (if pprLegal d.toNat then .ok else .configError)
  else if (portAccepts op d).isSome then .ok else .illegal

/-- The data word of a host command's response: the result of a read, else 0 (30_encoding.md R97). -/
def commandData (op : OpWord) (s : State) : Word :=
  if op = 0x50#8 then s.position else if op = 0x60#8 then wrapU32 s.velocity else 0

/-- The response that an agent step leaves: one for a host command, none for the other agents (30_encoding.md R97). -/
def agentResponse (a : AgentStep) (s : State) : Option Response :=
  match a with
  | .host op d => some ⟨commandStatus op d, commandData op s⟩
  | .clock => none
  | .sensor _ _ => none
  | .service _ => none

@[simp] theorem commandStatus_getPosition (d : Word) : commandStatus 0x50#8 d = .ok := rfl
@[simp] theorem commandStatus_getVelocity (d : Word) : commandStatus 0x60#8 d = .ok := rfl
@[simp] theorem commandData_getPosition (s : State) : commandData 0x50#8 s = s.position := rfl
@[simp] theorem commandData_getVelocity (s : State) : commandData 0x60#8 s = wrapU32 s.velocity := rfl

theorem commandData_of_not_read {op : OpWord} (hp : op ≠ 0x50#8) (hv : op ≠ 0x60#8) (s : State) :
    commandData op s = 0 := by
  rw [commandData, if_neg hp, if_neg hv]

theorem commandData_of_status_ne_ok {op : OpWord} {d : Word} (h : commandStatus op d ≠ .ok) (s : State) :
    commandData op s = 0 :=
  commandData_of_not_read (by rintro rfl; exact h (commandStatus_getPosition d))
    (by rintro rfl; exact h (commandStatus_getVelocity d)) s

/-- A word the port turns away is none of its five words, so it answers ILLEGAL 0. -/
theorem agentResponse_of_illegal {op : OpWord} {d : Word} (h : portAccepts op d = none) (s : State) :
    agentResponse (.host op d) s = some ⟨.illegal, 0⟩ := by
  have hs : commandStatus op d = .illegal := by
    rw [commandStatus, if_neg (by rintro rfl; cases h), h]; rfl
  have hd : commandData op s = 0 := commandData_of_status_ne_ok (d := d) (by rw [hs]; decide) s
  rw [agentResponse, hs, hd]

theorem agentResponse_init (d : Word) (s : State) :
    agentResponse (.host 0x30#8 d) s = some ⟨if pprLegal d.toNat then .ok else .configError, 0⟩ := rfl

/-- The next state of any agent step carries that agent's response. -/
theorem agentStep_response {a : AgentStep} {s t : State} (h : agentStep a s = .next t) :
    t.response = agentResponse a s := by
  rcases agentStep_cases h with
    ⟨rfl, rfl⟩ | ⟨ch, v, rfl, rfl⟩ | ⟨op, d, rfl, hp, rfl⟩ | ⟨d, rfl, hn, rfl⟩ | ⟨d, rfl, hn, rfl⟩ | ⟨d, rfl, rfl⟩ |
    ⟨d, rfl, rfl⟩ | ⟨d, rfl, rfl⟩ | ⟨d, rfl, rfl⟩ | ⟨e, rfl, _, rfl⟩ | ⟨rfl, _, rfl⟩ | ⟨rfl, _, rfl⟩ | ⟨rfl, _, rfl⟩
  · rfl
  · rfl
  · rw [agentResponse_of_illegal hp]; rfl
  · rw [agentResponse_init, hn]; rfl
  · rw [agentResponse_init, hn]; rfl
  all_goals rfl

/-- Choosing the next agent step touches no register. -/
theorem State.afterChoice_frame (s : State) :
    s.afterChoice = { s with agenda := s.afterChoice.agenda, drawn := s.afterChoice.drawn } := by
  rw [State.afterChoice]; split <;> rfl

theorem commandData_afterChoice (op : OpWord) (s : State) : commandData op s.afterChoice = commandData op s := by
  rw [State.afterChoice_frame]; rfl

/-- The response of a step, on the registers as they stood before it. -/
theorem step_response {s t : State} (h : step s = .next t) : t.response = agentResponse s.nextAgent s := by
  rw [agentStep_response h]
  cases s.nextAgent with
  | host op d => rw [agentResponse, agentResponse, commandData_afterChoice]
  | clock => rfl
  | sensor ch v => rfl
  | service e => rfl

/-! ### The obligations -/

/-- Settles O4: the reserved words are those outside the list of the ten, and the port turns them away. -/
theorem reservedWords : Obligations.ReservedWords := by
  unfold Obligations.ReservedWords
  refine ⟨decode_eq_error_iff, fun op d => ?fields, length_reserved, fun s op d rest hs hr => ?host, fun e s d => ?service⟩
  case fields => exact (decode_eq_error_iff op d).trans (not_mem_assignedWords_iff_fields op)
  case host =>
    obtain ⟨r, hr⟩ := hr
    exact step_host_illegal hs (portAccepts_of_error hr)
  case service => exact ⟨_, decode_serviceWord e s d⟩

/-- Settles O42, from the response that the step of the chosen agent leaves. -/
theorem oneResponsePerHostCommand : Obligations.OneResponsePerHostCommand := by
  unfold Obligations.OneResponsePerHostCommand
  intro s t h
  have hresp := step_response h
  refine ⟨fun op d ha => ?host, fun ha => ?other⟩
  case host =>
    rw [ha] at hresp
    refine ⟨_, hresp, fun hs => commandData_of_status_ne_ok hs s, fun hp => ?_, fun hv => ?_,
      fun hp hv => commandData_of_not_read hp hv s⟩
    · rw [hp, commandStatus_getPosition, commandData_getPosition]
    · rw [hv, commandStatus_getVelocity, commandData_getVelocity]; rfl
  case other =>
    rw [hresp]
    cases hn : s.nextAgent with
    | host op d => exact absurd hn (ha op d)
    | clock => rfl
    | sensor ch v => rfl
    | service e => rfl

/-- Settles O3: the masks are those of the decoder's tests, one clause for each format. -/
theorem decodeByMatchAndMask : Obligations.DecodeByMatchAndMask := by
  unfold Obligations.DecodeByMatchAndMask
  intro op d
  have hff : op &&& 0xFF#8 = op := BitVec.and_allOnes
  rw [hff]
  refine ⟨fun h => decode_edge h d, ?_, ?_, ?_, ?_, ?_, ?_, fun he hw => ⟨_, decode_reserved he hw d⟩, ?port⟩
  case port =>
    rintro (he | rfl)
    · exact portAccepts_edge he d
    · exact portAccepts_tick d
  all_goals (rintro rfl; simp)

/-- Settles O43, by the three statuses. -/
theorem statusCodes : Obligations.StatusCodes := by
  unfold Obligations.StatusCodes
  refine ⟨rfl, rfl, rfl, fun st => ?_⟩
  cases st <;> decide

end Sys2Proof.Machine
end

section
/-! PROOF. The family of 41_velocity_filter.md: UpdateSpeed with its formula written out, and the signed velocity read back
from GET_VELOCITY's data word. -/

namespace Sys2Proof.Machine

/-! ### UpdateSpeed -/

theorem filterOutput_of_reversal (raw prev : Nat) : filterOutput true raw prev = (3 * raw + prev) / 4 := rfl

theorem filterOutput_of_normal (raw prev : Nat) : filterOutput false raw prev = (3 * raw + 5 * prev) / 8 := rfl

theorem filterOutput_eq (changed : Bool) (raw prev : Nat) :
    filterOutput changed raw prev = if changed = true then (3 * raw + prev) / 4 else (3 * raw + 5 * prev) / 8 := by
  cases changed with
  | true => rw [filterOutput_of_reversal, if_pos rfl]
  | false => rw [filterOutput_of_normal, if_neg Bool.false_ne_true]

/-- The three registers UpdateSpeed writes, the output as a natural number (41_velocity_filter.md R153). -/
theorem State.updateSpeed_eq (samples period : Nat) (s : State) :
    s.updateSpeed samples period = { s with
      speedPrev := s.speedCur
      speedCur := BitVec.ofNat 32 (filterOutput s.dirChanged (rawSample samples period) s.speedCur.toNat)
      dirChanged := false } := by
  rw [State.updateSpeed, wrapU32_natCast]

/-! ### The signed velocity -/

/-- Two's complement reads back every integer of the signed 32-bit range (00_scope.md R13). -/
theorem wrapS32_of_mem_range {v : Int} (hlo : -2 ^ 31 ≤ v) (hhi : v < 2 ^ 31) : wrapS32 v = v := by
  rw [wrapS32, wrapU32, BitVec.toInt_ofInt]
  exact Int.bmod_eq_of_le hlo hhi

/-- The range of the signed velocity (41_velocity_filter.md R165): it leaves out -2^31. -/
theorem State.velocity_mem_range {s : State} (h : s.speedCur.toNat ≤ speedMax) :
    -(speedMax : Int) ≤ s.velocity ∧ s.velocity ≤ speedMax := by
  rw [State.velocity]
  rcases s.dirVec.toInt_cases with hd | hd <;> rw [hd] <;> omega

theorem exec_getVelocity (s : State) : exec .getVelocity s = .next (s.answer (wrapU32 s.velocity)) := rfl

/-- The host that reads the data word as two's complement has the velocity, for a speed in range. -/
theorem wrapU32_velocity_toInt {s : State} (h : s.speedCur.toNat ≤ speedMax) :
    (wrapU32 s.velocity).toInt = s.velocity := by
  obtain ⟨hlo, hhi⟩ := State.velocity_mem_range h
  have hmax : (speedMax : Int) = 2 ^ 31 - 1 := rfl
  rw [wrapU32_toInt]
  exact wrapS32_of_mem_range (by omega) (by omega)

/-! ### The obligations -/

/-- Settles O41: the velocity stays off -2^31, so the data word reads back as the velocity itself. -/
theorem velocityReadoutExact : Obligations.VelocityReadoutExact := by
  unfold Obligations.VelocityReadoutExact
  intro s h
  have hback : (wrapU32 s.velocity).toInt = s.velocity := wrapU32_velocity_toInt h
  obtain ⟨hlo, hhi⟩ := State.velocity_mem_range h
  refine ⟨_, wrapU32 s.velocity, exec_getVelocity s, rfl, ?product, ?lower, ?upper⟩
  case product => rw [hback]; rfl
  case lower => rw [hback]; exact hlo
  case upper => rw [hback]; exact hhi

/-- Settles O26, from the three registers written and the formula that `dir_changed` selects. -/
theorem updateSpeedFormulas : Obligations.UpdateSpeedFormulas := by
  unfold Obligations.UpdateSpeedFormulas
  intro samples period s raw
  have hraw : rawSample samples period = raw := rfl
  rw [State.updateSpeed_eq, filterOutput_eq, hraw]

end Sys2Proof.Machine
end

section
/-! PROOF. The family of 42_sample_clock.md: TICK in fast mode, TICK in slow mode with its stall check, and how every TICK
ends. -/

namespace Sys2Proof

/-- The sample period is never 0, so TICK's filter never divides by the replacement 1 (00_scope.md R8). -/
theorem Config.tickPeriodUs_pos (c : Config) : 0 < c.tickPeriodUs := Nat.succ_pos _

end Sys2Proof

namespace Sys2Proof.Machine

theorem exec_tick (s : State) : exec .tick s = .next (s.tick Config.block).silent := rfl

/-! ### How every TICK ends -/

theorem fastSelect_eq_true_iff (c : Config) (speed : Nat) : fastSelect c speed = true ↔ speed > c.threshold := by
  rw [fastSelect, decide_eq_true_iff]

/-- Step 3 empties the accumulator in either mode (42_sample_clock.md R186). -/
theorem State.tick_pulsesPerSample (c : Config) (s : State) : (s.tick c).pulsesPerSample = 0 := rfl

/-- Step 4 selects the mode by the speed that TICK itself leaves, for it writes no speed (42_sample_clock.md R187). -/
theorem State.tick_fastMode (c : Config) (s : State) :
    (s.tick c).fastMode = fastSelect c (s.tick c).speedCur.toNat := rfl

/-! ### The sample of fast mode -/

theorem rawSample_of_pos {period : Nat} (h : 0 < period) (samples : Nat) :
    rawSample samples period = min (samples * 1000000 / period) speedMax := by
  rw [rawSample, if_neg (Nat.pos_iff_ne_zero.1 h)]

theorem rawSample_le_speedMax (samples period : Nat) : rawSample samples period ≤ speedMax := Nat.min_le_right _ _

/-- The filter's output fits in a register, for any word as the previous speed: both formulas weigh the two speeds with
weights that add up to 1. -/
theorem filterOutput_lt_two_pow {raw : Nat} (hraw : raw ≤ speedMax) (changed : Bool) (prev : Word) :
    filterOutput changed raw prev.toNat < 2 ^ 32 := by
  have hmax : speedMax = 2 ^ 31 - 1 := rfl
  have hprev := prev.isLt
  cases changed with
  | true => rw [filterOutput_of_reversal]; omega
  | false => rw [filterOutput_of_normal]; omega

theorem Dir.toInt_inj {d e : Dir} : d.toInt = e.toInt ↔ d = e := by
  cases d <;> cases e <;> decide

theorem Dir.eq_ite_toInt (d : Dir) : d = if d.toInt = 1 then .ccw else .cw := by
  cases d <;> rfl

/-- The sign that TICK computes from the accumulator; zero counts as CCW (42_sample_clock.md R181). -/
theorem State.sampleDir_toInt (s : State) : s.sampleDir.toInt = if s.pulsesPerSample.toInt ≥ 0 then 1 else -1 := by
  rw [State.sampleDir, apply_ite Dir.toInt]; rfl

/-- A direction that differs from the recorded one takes the reversal formula, the recorded one the normal formula
(41_velocity_filter.md R151, R155). -/
theorem filterOutput_dirDiffers (d : Dir) (s : State) (raw prev : Nat) :
    filterOutput (dirDiffers d s) raw prev =
      if d.toInt = s.dirVec.toInt then (3 * raw + 5 * prev) / 8 else (3 * raw + prev) / 4 := by
  by_cases hd : d = s.dirVec
  · rw [if_pos (Dir.toInt_inj.2 hd), dirDiffers, decide_eq_false (not_not_intro hd), filterOutput_of_normal]
  · rw [if_neg (mt Dir.toInt_inj.1 hd), dirDiffers, decide_eq_true hd, filterOutput_of_reversal]

/-- The speed that a fast-mode TICK computes, as a natural number (42_sample_clock.md R181). -/
def State.sampleSpeed (c : Config) (s : State) : Nat :=
  filterOutput (dirDiffers s.sampleDir s) (rawSample s.pulseCount c.tickPeriodUs) s.speedCur.toNat

theorem State.fastSample_speedCur (c : Config) (s : State) :
    (s.fastSample c).speedCur = BitVec.ofNat 32 (s.sampleSpeed c) := by
  rw [State.fastSample, State.updateSpeed_eq]; rfl

theorem State.fastSample_speedCur_toNat (c : Config) (s : State) :
    (s.fastSample c).speedCur.toNat = s.sampleSpeed c := by
  rw [State.fastSample_speedCur, BitVec.toNat_ofNat]
  exact Nat.mod_eq_of_lt (filterOutput_lt_two_pow (rawSample_le_speedMax _ _) _ _)

/-! ### The stall of slow mode -/

/-- The stall with its window written out; the silence is strictly longer (42_sample_clock.md R183). -/
theorem stalled_eq_true_iff (c : Config) (s : State) :
    stalled c s = true ↔ s.speedCur.toNat ≤ c.threshold ∧
      (s.nowUs - s.lastEdgeUs).toNat > (c.threshold - s.speedCur.toNat) * c.tickPeriodUs / 2 := by
  rw [stalled, allowedSilence, State.elapsed_eq]
  by_cases hle : s.speedCur.toNat ≤ c.threshold <;> simp [hle]

theorem fastSelect_zero (c : Config) : fastSelect c 0 = false := decide_eq_false (Nat.not_lt_zero _)

/-- A stalled TICK forces the speed to 0, and so ends in slow mode (42_sample_clock.md R184, R187). -/
theorem State.tick_slow_of_stalled {c : Config} {s : State} (h : s.fastMode = false) (hs : stalled c s = true) :
    s.tick c = { s with speedPrev := s.speedCur, speedCur := 0, pulsesPerSample := 0, fastMode := false } := by
  have hmode : fastSelect c (0 : Word).toNat = false := fastSelect_zero c
  rw [State.tick_slow c s h]
  simp only [if_pos hs, hmode]

/-- A slow-mode TICK without a stall writes neither speed (42_sample_clock.md R184). -/
theorem State.tick_slow_of_not_stalled {c : Config} {s : State} (h : s.fastMode = false) (hs : ¬ stalled c s = true) :
    s.tick c = { s with pulsesPerSample := 0, fastMode := fastSelect c s.speedCur.toNat } := by
  rw [State.tick_slow c s h]
  simp only [if_neg hs]

/-! ### The obligations -/

/-- Settles O30: the computed speed fits in 32 bits, so the register and the mode see the same number. -/
theorem tickFastMode : Obligations.TickFastMode := by
  unfold Obligations.TickFastMode
  intro s h d raw speed
  have hd : s.sampleDir.toInt = d := s.sampleDir_toInt
  have hdir : s.sampleDir = if d = 1 then .ccw else .cw := by rw [← hd]; exact s.sampleDir.eq_ite_toInt
  have hraw : rawSample s.pulseCount Config.block.tickPeriodUs = raw :=
    rawSample_of_pos Config.block.tickPeriodUs_pos s.pulseCount
  have hspeed : s.sampleSpeed Config.block = speed := by
    rw [State.sampleSpeed, filterOutput_dirDiffers, hd, hraw]
  rw [exec_tick, State.tick_fast _ s h, State.fastSample_speedCur_toNat, State.fastSample_speedCur, hspeed, hdir]
  rfl

/-- Settles O31, by the two outcomes of the stall check. -/
theorem tickSlowMode : Obligations.TickSlowMode := by
  unfold Obligations.TickSlowMode
  intro s h elapsed stall
  have hstall : stalled Config.block s = true ↔ stall := stalled_eq_true_iff Config.block s
  refine ⟨fun hs => ?stalls, fun hs => ?keeps⟩
  case stalls => rw [exec_tick, State.tick_slow_of_stalled h (hstall.2 hs)]; rfl
  case keeps => rw [exec_tick, State.tick_slow_of_not_stalled h (mt hstall.1 hs)]; rfl

/-- Settles O35: the last two of TICK's four steps are the same in both modes. -/
theorem tickEndsInSelectedMode : Obligations.TickEndsInSelectedMode := by
  unfold Obligations.TickEndsInSelectedMode
  intro s
  refine ⟨_, exec_tick s, s.tick_pulsesPerSample Config.block, ?_⟩
  rw [State.silent_fastMode, State.tick_fastMode, fastSelect_eq_true_iff, State.silent_speedCur]

end Sys2Proof.Machine
end

section
/-! PROOF. The family of 43_host_commands.md: the five host commands as operations and on the command port, the command
that is turned away, and the answers of GET_POSITION before the first INIT. -/

namespace Sys2Proof

/-! ### What the command port performs -/

theorem portAccepts_of_host {op : OpWord} {d : Word} {i : Instr} (h : decode op d = .ok i) (hi : i.issuer = .host) :
    portAccepts op d = some i := by
  simp [portAccepts, h, hi]

end Sys2Proof

namespace Sys2Proof.Machine

/-- A host word that decodes to a host operation is that operation, performed with the rest of the agenda to come. -/
theorem step_host_accepted {s : State} {op : OpWord} {d : Word} {rest : List AgentStep} {i : Instr}
    (h : s.agenda = .host op d :: rest) (hd : decode op d = .ok i) (hi : i.issuer = .host) :
    step s = exec i { s with agenda := rest } := by
  rw [step_cons h, agentStep_host_accepted (portAccepts_of_host hd hi)]

/-! ### Each command as an operation -/

theorem exec_setHome (s : State) : exec .setHome s = .next (State.answer 0 { s with position := 0 }) := rfl

theorem exec_getPosition (s : State) : exec .getPosition s = .next (s.answer s.position) := rfl

theorem exec_disarm (s : State) : exec .disarm s = .next (s.disarm.answer 0) := rfl

theorem pprLegal_eq_true_iff (n : Nat) : pprLegal n = true ↔ 1 ≤ n ∧ n ≤ pprMax := by
  rw [pprLegal, decide_eq_true_iff]

theorem exec_init_of_legal {n : Nat} (h : pprLegal n = true) (s : State) :
    exec (.init n) s = .next ((s.configure n).answer 0) := by
  rw [exec_init, if_pos h]

theorem exec_init_of_not_legal {n : Nat} (h : ¬ pprLegal n = true) (s : State) :
    exec (.init n) s = .next (s.rejectConfig.raise .configError) := by
  rw [exec_init, if_neg h]

/-- The word that GET_VELOCITY answers, by the recorded direction (43_host_commands.md R214). -/
def State.velocityWord (s : State) : Word :=
  match s.dirVec with
  | .ccw => s.speedCur
  | .cw => -s.speedCur

/-- Wrapping the product of the speed with the direction -1 is negation in two's complement (30_encoding.md R101). -/
theorem State.wrapU32_velocity (s : State) : wrapU32 s.velocity = s.velocityWord := by
  rw [State.velocity, State.velocityWord]
  cases s.dirVec with
  | ccw => rw [Dir.toInt, mul_one, wrapU32_word]
  | cw => rw [Dir.toInt, mul_neg_one, wrapU32, BitVec.ofInt_neg, ← wrapU32, wrapU32_word]

/-- The velocity stays off -2^31 for a speed in range, so its word is not 0x80000000. -/
theorem State.velocityWord_ne_intMin {s : State} (h : s.speedCur.toNat ≤ speedMax) :
    s.velocityWord ≠ 0x80000000#32 := by
  intro hw
  have hmin : s.velocity = (0x80000000#32).toInt := by
    rw [← hw, ← s.wrapU32_velocity, wrapU32_velocity_toInt h]
  obtain ⟨hlo, -⟩ := State.velocity_mem_range h
  rw [hmin] at hlo
  exact absurd hlo (by decide)

/-! ### An edge served after a command -/

theorem exec_edge (ch : Channel) (l : Bool) (s : State) :
    exec (.edge ch l) s = .next (s.edge Config.block ch l).silent := by
  cases ch <;> rfl

/-- An edge never writes the modulus (10_state.md R33). -/
theorem State.edge_ppr (c : Config) (ch : Channel) (l : Bool) (s : State) : (s.edge c ch l).ppr = s.ppr := by
  cases h : s.fastMode with
  | true => rw [State.edge_fast c ch l s h]
  | false => rw [State.edge_slow c ch l s h]

/-- The position moves alike in both modes (40_edge_decoder.md R122). -/
theorem State.edge_position (c : Config) (ch : Channel) (l : Bool) (s : State) :
    (s.edge c ch l).position = wrapU32 (nextPosition s.ppr.toNat s.position.toNat (decodeDir ch l)) := by
  cases h : s.fastMode with
  | true => rw [State.edge_fast c ch l s h]
  | false => rw [State.edge_slow c ch l s h]

/-- From home a count up gives 1, or wraps to 0 where the modulus is 1 (40_edge_decoder.md R123). -/
theorem nextPosition_zero_ccw {ppr : Nat} (h : 1 ≤ ppr) : nextPosition ppr 0 .ccw = if ppr = 1 then 0 else 1 := by
  simp only [nextPosition, Dir.toInt]
  split_ifs <;> omega

/-- From home a count down wraps to the last position (40_edge_decoder.md R123). -/
theorem nextPosition_zero_cw (ppr : Nat) : nextPosition ppr 0 .cw = (ppr : Int) - 1 := rfl

theorem nextPosition_zero_cases {ppr : Nat} (h : 1 ≤ ppr) (d : Dir) :
    nextPosition ppr 0 d = 1 ∨ nextPosition ppr 0 d = (ppr : Int) - 1 := by
  cases d with
  | ccw => rw [nextPosition_zero_ccw h]; split_ifs <;> omega
  | cw => exact .inr (nextPosition_zero_cw ppr)

/-- A block with one position stays at 0 (43_host_commands.md R211). -/
theorem nextPosition_one (d : Dir) : nextPosition 1 0 d = 0 := by
  cases d <;> rfl

/-- An edge served at home (43_host_commands.md R212). -/
theorem State.edge_position_of_home {s : State} (hpos : s.position = 0) (hppr : 1 ≤ s.ppr.toNat) (c : Config)
    (ch : Channel) (l : Bool) :
    (s.edge c ch l).position.toNat = 1 ∨ (s.edge c ch l).position.toNat = s.ppr.toNat - 1 := by
  have hlt := s.ppr.isLt
  have hzero : s.position.toNat = 0 := by rw [hpos]; rfl
  rw [State.edge_position, hzero]
  rcases nextPosition_zero_cases hppr (decodeDir ch l) with h | h <;> rw [h]
  · exact .inl rfl
  · have hback : ((wrapU32 ((s.ppr.toNat : Int) - 1)).toNat : Int) = s.ppr.toNat - 1 :=
      wrapU32_toNat_of_lt (by omega) (by omega)
    exact .inr (by omega)

/-! ### Steps along an agenda -/

/-- No operation faults or is refused (60_exceptions.md R269, R270). -/
theorem exec_total (i : Instr) (s : State) : ∃ t, exec i s = .next t := by
  cases i with
  | init n => exact ⟨_, exec_init n s⟩
  | edgeA l => exact ⟨_, rfl⟩
  | edgeB l => exact ⟨_, rfl⟩
  | tick => exact ⟨_, rfl⟩
  | setHome => exact ⟨_, rfl⟩
  | getPosition => exact ⟨_, rfl⟩
  | getVelocity => exact ⟨_, rfl⟩
  | disarm => exact ⟨_, rfl⟩

theorem agentStep_total (a : AgentStep) (s : State) : ∃ t, agentStep a s = .next t := by
  cases a with
  | clock => exact ⟨_, rfl⟩
  | sensor ch v => exact ⟨_, rfl⟩
  | host op d =>
    cases hp : portAccepts op d with
    | some i => rw [agentStep_host_accepted hp]; exact exec_total i s
    | none => exact ⟨_, agentStep_host_illegal hp⟩
  | service e =>
    cases hs : s.pending e with
    | true => rw [agentStep_service_set hs]; exact exec_total _ _
    | false => exact ⟨_, agentStep_service_clear hs⟩

theorem State.clockStep_agenda (c : Config) (s : State) : (s.clockStep c).agenda = s.agenda := by
  cases h : s.armed with
  | true => rw [State.clockStep_armed c s h]
  | false => rw [State.clockStep_disarmed c s h]

theorem State.sensorStep_agenda (ch : Channel) (v : Bool) (s : State) : (s.sensorStep ch v).agenda = s.agenda := by
  cases ch with
  | a => rw [State.sensorStep_a]
  | b => rw [State.sensorStep_b]

theorem State.edge_agenda (c : Config) (ch : Channel) (l : Bool) (s : State) : (s.edge c ch l).agenda = s.agenda := by
  cases h : s.fastMode with
  | true => rw [State.edge_fast c ch l s h]
  | false => rw [State.edge_slow c ch l s h]

theorem State.tick_agenda (c : Config) (s : State) : (s.tick c).agenda = s.agenda := by
  cases h : s.fastMode with
  | true => rw [State.tick_fast c s h]
  | false => rw [State.tick_slow c s h]

/-- No agent touches the steps to come; only the choice of the next one does (assumption 1). -/
theorem agentStep_agenda {a : AgentStep} {s t : State} (h : agentStep a s = .next t) : t.agenda = s.agenda := by
  rcases agentStep_cases h with
    ⟨rfl, rfl⟩ | ⟨ch, v, rfl, rfl⟩ | ⟨op, d, rfl, hp, rfl⟩ | ⟨d, rfl, hn, rfl⟩ | ⟨d, rfl, hn, rfl⟩ | ⟨d, rfl, rfl⟩ |
    ⟨d, rfl, rfl⟩ | ⟨d, rfl, rfl⟩ | ⟨d, rfl, rfl⟩ | ⟨e, rfl, _, rfl⟩ | ⟨rfl, _, rfl⟩ | ⟨rfl, _, rfl⟩ | ⟨rfl, _, rfl⟩
  · exact s.clockStep_agenda _
  · exact s.sensorStep_agenda ch v
  iterate 8 · rfl
  · exact State.edge_agenda ..
  · exact State.edge_agenda ..
  · exact State.tick_agenda ..

theorem run_add {j k : Nat} {s t : State} (h : run j s = .next t) : run (j + k) s = run k t := by
  induction j generalizing s with
  | zero => cases h; rw [Nat.zero_add]
  | succ j ih =>
    cases hs : step s with
    | next u =>
      rw [run_succ j hs] at h
      rw [Nat.add_right_comm, run_succ (j + k) hs, ih h]
    | fault r => rw [run, hs] at h; cases h
    | refused r => rw [run, hs] at h; cases h

/-- A property that does not look at the agenda, and that every agent step of `mid` keeps, holds after `mid`. -/
theorem run_keeps {P : State → Prop} {mid rest : List AgentStep}
    (hagenda : ∀ s l, P s → P { s with agenda := l })
    (hstep : ∀ a ∈ mid, ∀ s t, P s → agentStep a s = .next t → P t)
    {s : State} (hs : s.agenda = mid ++ rest) (hP : P s) :
    ∃ t, run mid.length s = .next t ∧ t.agenda = rest ∧ P t := by
  induction mid generalizing s with
  | nil => exact ⟨s, rfl, hs, hP⟩
  | cons a mid ih =>
    obtain ⟨u, hu⟩ := agentStep_total a { s with agenda := mid ++ rest }
    have hPu : P u := hstep a List.mem_cons_self _ u (hagenda s _ hP) hu
    obtain ⟨t, ht, hrest, hPt⟩ := ih (fun b hb => hstep b (List.mem_cons_of_mem a hb)) (agentStep_agenda hu) hPu
    exact ⟨t, (run_succ _ ((step_cons hs).trans hu)).trans ht, hrest, hPt⟩

/-! ### The disarmed block -/

/-- A disarmed block with clear latches (10_state.md R50, item 6). -/
structure State.Quiet (s : State) : Prop where
  disarmed : s.armed = false
  clear : ∀ e, s.pending e = false

theorem State.pending_withAgenda (s : State) (l : List AgentStep) (e : Event) :
    ({ s with agenda := l } : State).pending e = s.pending e := by
  cases e <;> rfl

theorem State.Quiet.withAgenda {s : State} (h : s.Quiet) (l : List AgentStep) : ({ s with agenda := l } : State).Quiet :=
  ⟨h.disarmed, fun e => (State.pending_withAgenda s l e).trans (h.clear e)⟩

/-- DISARM finds nothing to clear in a quiet block. -/
theorem State.Quiet.disarm_eq {s : State} (h : s.Quiet) : s.disarm = s := by
  have hArmed : false = s.armed := h.disarmed.symm
  have hA : false = s.pendA := (h.clear .edgeA).symm
  have hB : false = s.pendB := (h.clear .edgeB).symm
  have hT : false = s.pendTick := (h.clear .tick).symm
  cases s
  cases hArmed; cases hA; cases hB; cases hT
  rfl

/-- A disarmed block records the level and raises no event (60_exceptions.md R252, R254). -/
theorem State.sensorStep_disarmed {s : State} (h : s.armed = false) (ch : Channel) (v : Bool) :
    s.sensorStep ch v = s.setLevel ch v := by
  have hr : risesArmed ch v s = false := by rw [risesArmed, h, Bool.and_false]
  rw [State.sensorStep, hr, if_neg Bool.false_ne_true]

/-- An agent step that is no INIT leaves a quiet block's position or clears it (SET_HOME), and writes besides only the time,
a level and the response (60_exceptions.md R254). -/
theorem State.Quiet.agentStep_frame {a : AgentStep} {s t : State} (hq : s.Quiet) (ha : isInitCommand a = false)
    (h : agentStep a s = .next t) :
    (t.position = s.position ∨ t.position = 0) ∧
    t = { s with nowUs := t.nowUs, lvlA := t.lvlA, lvlB := t.lvlB, position := t.position, response := t.response } := by
  rcases agentStep_cases h with
    ⟨rfl, rfl⟩ | ⟨ch, v, rfl, rfl⟩ | ⟨op, d, rfl, hp, rfl⟩ | ⟨d, rfl, hn, rfl⟩ | ⟨d, rfl, hn, rfl⟩ | ⟨d, rfl, rfl⟩ |
    ⟨d, rfl, rfl⟩ | ⟨d, rfl, rfl⟩ | ⟨d, rfl, rfl⟩ | ⟨e, rfl, _, rfl⟩ | ⟨rfl, hs, rfl⟩ | ⟨rfl, hs, rfl⟩ | ⟨rfl, hs, rfl⟩
  · rw [State.clockStep_disarmed _ s hq.disarmed]; exact ⟨.inl rfl, rfl⟩
  · rw [State.sensorStep_disarmed hq.disarmed]
    cases ch with
    | a => exact ⟨.inl rfl, rfl⟩
    | b => exact ⟨.inl rfl, rfl⟩
  · exact ⟨.inl rfl, rfl⟩
  · cases ha
  · cases ha
  · exact ⟨.inr rfl, rfl⟩
  · exact ⟨.inl rfl, rfl⟩
  · exact ⟨.inl rfl, rfl⟩
  · rw [hq.disarm_eq]; exact ⟨.inl rfl, rfl⟩
  · exact ⟨.inl rfl, rfl⟩
  · cases hs.symm.trans (hq.clear .edgeA)
  · cases hs.symm.trans (hq.clear .edgeB)
  · cases hs.symm.trans (hq.clear .tick)

theorem State.Quiet.of_frame {s t : State} (hq : s.Quiet)
    (ht : t = { s with
      nowUs := t.nowUs, lvlA := t.lvlA, lvlB := t.lvlB, position := t.position, response := t.response }) : t.Quiet := by
  rw [ht]
  exact ⟨hq.disarmed, fun e => by cases e with
    | edgeA => exact hq.clear .edgeA
    | edgeB => exact hq.clear .edgeB
    | tick => exact hq.clear .tick⟩

/-- A quiet block at position 0, as it stands between reset and the first INIT. -/
structure State.QuietAtHome (s : State) : Prop where
  quiet : s.Quiet
  home : s.position = 0

/-- Reset leaves it so, whatever is on the agenda (70_reset_and_hazards.md R290). -/
theorem State.quietAtHome_reset (l : List AgentStep) (n : Nat) :
    ({ State.reset with agenda := l, drawn := n } : State).QuietAtHome :=
  ⟨⟨rfl, fun e => by cases e <;> rfl⟩, rfl⟩

theorem State.QuietAtHome.withAgenda {s : State} (h : s.QuietAtHome) (l : List AgentStep) :
    ({ s with agenda := l } : State).QuietAtHome :=
  ⟨h.quiet.withAgenda l, h.home⟩

theorem State.QuietAtHome.of_agentStep {a : AgentStep} {s t : State} (hq : s.QuietAtHome) (ha : isInitCommand a = false)
    (h : agentStep a s = .next t) : t.QuietAtHome := by
  obtain ⟨hpos, hframe⟩ := hq.quiet.agentStep_frame ha h
  exact ⟨hq.quiet.of_frame hframe, hpos.elim (fun hp => hp.trans hq.home) id⟩

/-! ### The obligations -/

/-- Settles O38; the run from reset keeps the block quiet at position 0 up to the read. -/
theorem getPositionCommand : Obligations.GetPositionCommand := by
  unfold Obligations.GetPositionCommand
  refine ⟨exec_getPosition, fun s d rest hs => ?port, fun s hinv harmed => ?range, fun mid rest d n hmid => ?fromReset,
    fun s => ?afterDisarm⟩
  case port => exact step_host_accepted hs (decode_getPosition d) rfl
  case range =>
    obtain ⟨-, -, hlt⟩ := hinv.armedRange harmed
    exact ⟨_, s.position, exec_getPosition s, rfl, hlt⟩
  case fromReset =>
    obtain ⟨t, ht, hrest, hhome⟩ := run_keeps (P := State.QuietAtHome) (mid := mid) (rest := .host 0x50#8 d :: rest)
      (fun s l h => h.withAgenda l) (fun a ha s t h => h.of_agentStep (hmid a ha)) rfl (State.quietAtHome_reset _ n)
    have hstep : step t = .next (State.answer t.position { t with agenda := rest }) :=
      step_host_accepted hrest (decode_getPosition d) rfl
    refine ⟨_, (run_add ht).trans (run_succ 0 hstep), ?_⟩
    rw [State.answer_response, hhome.home]
  case afterDisarm => exact ⟨_, _, exec_disarm s, exec_getPosition _, rfl⟩

/-- Settles O36, by the legality of the operand; with a count of 1 every edge wraps back to 0. -/
theorem initCommand : Obligations.InitCommand := by
  unfold Obligations.InitCommand
  refine ⟨fun n s hlo hhi => ?legal, fun n s hn => ?illegal, fun s d rest hs => ?port, fun s ch l hppr hpos => ?edge⟩
  case legal =>
    rw [exec_init_of_legal ((pprLegal_eq_true_iff n).2 ⟨hlo, hhi⟩), State.configure, wrapU32_natCast]; rfl
  case illegal =>
    have hmax : pprMax = 2 ^ 31 - 1 := rfl
    have hl : ¬ pprLegal n = true := by rw [pprLegal_eq_true_iff]; omega
    exact exec_init_of_not_legal hl s
  case port => exact step_host_accepted hs (decode_init d) rfl
  case edge =>
    refine ⟨_, exec_edge ch l s, (State.edge_ppr ..).trans hppr, ?_⟩
    have hmove : nextPosition s.ppr.toNat s.position.toNat (decodeDir ch l) = 0 := by
      rw [hppr, hpos]; exact nextPosition_one _
    rw [State.silent_position, State.edge_position, hmove]; rfl

/-- Settles O37, with the edge that finds the position at home. -/
theorem setHomeCommand : Obligations.SetHomeCommand := by
  unfold Obligations.SetHomeCommand
  refine ⟨exec_setHome, fun s d rest hs => ?port, fun s ch l hppr => ?edge⟩
  case port => exact step_host_accepted hs (decode_setHome d) rfl
  case edge =>
    refine ⟨_, _, exec_setHome s, exec_edge ch l _, ?_⟩
    exact State.edge_position_of_home (s := State.answer 0 { s with position := 0 }) rfl hppr Config.block ch l

/-- Settles O39, from the word that the velocity wraps to. -/
theorem getVelocityCommand : Obligations.GetVelocityCommand := by
  unfold Obligations.GetVelocityCommand
  refine ⟨fun s => ?operation, fun s d rest hs => ?port, fun s h => State.velocityWord_ne_intMin h⟩
  case operation => rw [exec_getVelocity, State.wrapU32_velocity]; rfl
  case port =>
    rw [step_host_accepted hs (decode_getVelocity d) rfl, exec_getVelocity, State.wrapU32_velocity]; rfl

/-- Settles O7: reserved, edge and tick words are the words the port turns away. -/
theorem illegalHostCommand : Obligations.IllegalHostCommand := by
  unfold Obligations.IllegalHostCommand
  intro s op d rest hs hop
  refine step_host_illegal hs ?_
  rcases hop with ⟨r, hr⟩ | ⟨l, hl⟩ | ⟨l, hl⟩ | ht
  · exact portAccepts_of_error hr
  · exact portAccepts_of_serviceEngine hl rfl
  · exact portAccepts_of_serviceEngine hl rfl
  · exact portAccepts_of_serviceEngine ht rfl

/-- Settles O40, as an operation and on the port. -/
theorem disarmCommand : Obligations.DisarmCommand := by
  unfold Obligations.DisarmCommand
  exact ⟨exec_disarm, fun s d rest hs => step_host_accepted hs (decode_disarm d) rfl⟩

end Sys2Proof.Machine
end

section
/-! PROOF. The family of 60_exceptions.md: the Sensor step, the second edge on a set latch, and the level that an edge's
service reads. -/

namespace Sys2Proof.Machine

/-! ### The Sensor step, for either channel -/

/-- A Sensor step put on the agenda: its agent touches neither the rest of the agenda nor the draw counter. -/
theorem step_sensor_withAgenda (s : State) (ch : Channel) (v : Bool) (rest : List AgentStep) :
    step { s with agenda := .sensor ch v :: rest } = .next { (s.sensorStep ch v).silent with agenda := rest } := by
  rw [step_cons rfl, agentStep]
  cases ch with
  | a => rw [State.sensorStep_a, State.sensorStep_a]; rfl
  | b => rw [State.sensorStep_b, State.sensorStep_b]; rfl

theorem step_sensor {s : State} {ch : Channel} {v : Bool} {rest : List AgentStep} (h : s.agenda = .sensor ch v :: rest) :
    step s = .next { (s.sensorStep ch v).silent with agenda := rest } := by
  rw [← step_sensor_withAgenda, ← h]

/-- A latch after a Sensor step, as 60_exceptions.md R252 puts it: set by a 0 to 1 change while armed, else left. -/
theorem or_rise_eq_ite (pend lvl v armed : Bool) :
    (pend || (!lvl && v && armed)) = if lvl = false ∧ v = true ∧ armed = true then true else pend := by
  by_cases h : lvl = false ∧ v = true ∧ armed = true
  · obtain ⟨rfl, rfl, rfl⟩ := h
    exact Bool.or_true pend
  · have hno : (!lvl && v && armed) = false := by simpa [and_assoc] using h
    rw [if_neg h, hno, Bool.or_false]

theorem State.setLevel_pending (s : State) (ch : Channel) (v : Bool) (e : Event) :
    (s.setLevel ch v).pending e = s.pending e := by
  cases ch <;> cases e <;> rfl

/-- A Sensor step can set its own channel's latch and never clears one (60_exceptions.md R252, R253). -/
theorem State.sensorStep_pending (s : State) (ch : Channel) (v : Bool) (e : Event) :
    (s.sensorStep ch v).pending e = (s.pending e || (risesArmed ch v s && decide (channelEvent ch = e))) := by
  rw [State.sensorStep]
  cases risesArmed ch v s with
  | true => rw [if_pos rfl, State.raiseEvent_pending, State.setLevel_pending, Bool.true_and, Bool.or_comm]
  | false => rw [if_neg Bool.false_ne_true, State.setLevel_pending, Bool.false_and, Bool.or_false]

theorem State.sensorStep_level_self (s : State) (ch : Channel) (v : Bool) : (s.sensorStep ch v).level ch = v := by
  cases ch with
  | a => rw [State.sensorStep_a]; rfl
  | b => rw [State.sensorStep_b]; rfl

theorem State.sensorStep_position (s : State) (ch : Channel) (v : Bool) : (s.sensorStep ch v).position = s.position := by
  cases ch with
  | a => rw [State.sensorStep_a]
  | b => rw [State.sensorStep_b]

theorem State.sensorStep_ppr (s : State) (ch : Channel) (v : Bool) : (s.sensorStep ch v).ppr = s.ppr := by
  cases ch with
  | a => rw [State.sensorStep_a]
  | b => rw [State.sensorStep_b]

theorem risesArmed_of_armed_low {s : State} {ch : Channel} (ha : s.armed = true) (hl : s.level ch = false) :
    risesArmed ch true s = true := by
  rw [risesArmed, ha, hl]; rfl

/-! ### A fall and a second rise before service -/

/-- What the first rise left, a fall and a second rise leave again: the level is high and the latch is set
(60_exceptions.md R253). -/
theorem State.sensorStep_second_rise {s : State} {ch : Channel} (ha : s.armed = true) (hl : s.level ch = false) :
    (((s.sensorStep ch true).silent.sensorStep ch false).silent.sensorStep ch true).silent = (s.sensorStep ch true).silent := by
  cases ch with
  | a =>
    have hlow : s.lvlA = false := hl
    simp [State.sensorStep_a, State.silent, ha, hlow]
  | b =>
    have hlow : s.lvlB = false := hl
    simp [State.sensorStep_b, State.silent, ha, hlow]

/-! ### The service of an edge, for either channel -/

/-- The channel whose level decides the direction of an edge (60_exceptions.md R263). -/
def pairedChannel : Channel → Channel
  | .a => .b
  | .b => .a

theorem serviceInstr_channelEvent (ch : Channel) (s : State) :
    serviceInstr (channelEvent ch) s = .edge ch (s.level (pairedChannel ch)) := by
  cases ch <;> rfl

theorem State.silent_pending (s : State) (e : Event) : s.silent.pending e = s.pending e := by
  cases e <;> rfl

theorem State.silent_level (s : State) (ch : Channel) : s.silent.level ch = s.level ch := by
  cases ch <;> rfl

theorem State.level_withAgenda (s : State) (l : List AgentStep) (ch : Channel) :
    ({ s with agenda := l } : State).level ch = s.level ch := by
  cases ch <;> rfl

/-- An edge operation writes no latch. -/
theorem State.edge_pending (c : Config) (ch : Channel) (l : Bool) (s : State) (e : Event) :
    (s.edge c ch l).pending e = s.pending e := by
  cases h : s.fastMode with
  | true => rw [State.edge_fast c ch l s h]; cases e <;> rfl
  | false => rw [State.edge_slow c ch l s h]; cases e <;> rfl

/-- The service of a set edge latch clears the latch and moves the position by the paired level as it stands
(60_exceptions.md R260, R263). -/
theorem step_service_edge {s : State} {ch : Channel} {rest : List AgentStep}
    (h : s.agenda = .service (channelEvent ch) :: rest) (hp : s.pending (channelEvent ch) = true) :
    ∃ t, step s = .next t ∧ t.pending (channelEvent ch) = false ∧
      t.position = wrapU32 (nextPosition s.ppr.toNat s.position.toNat (decodeDir ch (s.level (pairedChannel ch)))) := by
  rw [step_service_set h hp, serviceInstr_channelEvent, exec_edge]
  refine ⟨_, rfl, ?cleared, ?moved⟩
  case cleared =>
    rw [State.silent_pending, State.edge_pending, State.takeEvent_pending, decide_eq_false (not_not_intro rfl),
      Bool.false_and]
  case moved => rw [State.silent_position, State.edge_position, State.takeEvent_frame]

/-! ### The position after an edge -/

/-- The wraparound of an in-range position is reduction modulo the count (40_edge_decoder.md R123). -/
theorem nextPosition_eq_emod {ppr position : Nat} (h : position < ppr) (d : Dir) :
    nextPosition ppr position d = ((position : Int) + d.toInt) % ppr := by
  have hd := d.toInt_cases
  rw [nextPosition]
  split_ifs with hneg hwrap
  · have hlast : (position : Int) + d.toInt + ppr = ppr - 1 := by omega
    rw [← Int.add_emod_right, hlast, Int.emod_eq_of_lt (by omega) (by omega)]
  · have hfull : (position : Int) + d.toInt = ppr := by omega
    rw [hfull, Int.emod_self]
  · rw [Int.emod_eq_of_lt (by omega) (by omega)]

/-- The same of the word that holds the new position. -/
theorem wrapU32_nextPosition_toNat {ppr position : Word} (h : position.toNat < ppr.toNat) (d : Dir) :
    ((wrapU32 (nextPosition ppr.toNat position.toNat d)).toNat : Int) = (position.toNat + d.toInt) % ppr.toNat := by
  have hppr := ppr.isLt
  have hlo := Int.emod_nonneg (position.toNat + d.toInt) (b := ppr.toNat) (by omega)
  have hhi := Int.emod_lt_of_pos (position.toNat + d.toInt) (b := ppr.toNat) (by omega)
  rw [nextPosition_eq_emod h, wrapU32_toNat_of_lt hlo (by omega)]

theorem decodeDir_a_toInt (l : Bool) : (decodeDir .a l).toInt = if l then 1 else -1 := by
  cases l <;> rfl

theorem decodeDir_b_toInt (l : Bool) : (decodeDir .b l).toInt = if l then -1 else 1 := by
  cases l <;> rfl

/-- A pending edge served after a Sensor step on the paired channel: the level that this step wrote decides the direction
(60_exceptions.md R263). -/
theorem run_pairedSensor_service {s : State} {ch : Channel} {v : Bool} {rest : List AgentStep}
    (hpos : s.position.toNat < s.ppr.toNat) (hp : s.pending (channelEvent ch) = true)
    (hs : s.agenda = .sensor (pairedChannel ch) v :: .service (channelEvent ch) :: rest) :
    ∃ t, run 2 s = .next t ∧
      (t.position.toNat : Int) = (s.position.toNat + (decodeDir ch v).toInt) % s.ppr.toNat := by
  have hp' : (s.sensorStep (pairedChannel ch) v).pending (channelEvent ch) = true := by
    rw [State.sensorStep_pending, hp, Bool.true_or]
  obtain ⟨t, ht, -, hmove⟩ := step_service_edge (s := { (s.sensorStep (pairedChannel ch) v).silent with
    agenda := .service (channelEvent ch) :: rest }) rfl (by rw [State.pending_withAgenda, State.silent_pending, hp'])
  refine ⟨t, (run_succ 1 (step_sensor hs)).trans (run_succ 0 ht), ?_⟩
  rw [State.level_withAgenda, State.silent_level, State.sensorStep_level_self] at hmove
  rw [hmove, State.silent_ppr, State.silent_position, State.sensorStep_ppr, State.sensorStep_position,
    wrapU32_nextPosition_toNat hpos]

/-! ### The obligations -/

/-- Settles O10, by the Sensor step's law for each channel. -/
theorem sensorStepTracksLevel : Obligations.SensorStepTracksLevel := by
  unfold Obligations.SensorStepTracksLevel
  refine fun s v rest => ⟨fun hs => ?a, fun hs => ?b⟩
  case a => rw [step_sensor hs, State.sensorStep_a, or_rise_eq_ite]; rfl
  case b => rw [step_sensor hs, State.sensorStep_b, or_rise_eq_ite]; rfl

/-- Settles O14, for channel A and channel B. -/
theorem directionUsesLevelAtService : Obligations.DirectionUsesLevelAtService := by
  unfold Obligations.DirectionUsesLevelAtService
  refine fun s v rest hpos => ⟨fun hp hs => ?a, fun hp hs => ?b⟩
  case a => rw [← decodeDir_a_toInt]; exact run_pairedSensor_service (ch := .a) hpos hp hs
  case b => rw [← decodeDir_b_toInt]; exact run_pairedSensor_service (ch := .b) hpos hp hs

/-- Settles O11: the two runs meet once the second rise has found the latch set, and the service clears it. -/
theorem secondEdgeIsLost : Obligations.SecondEdgeIsLost := by
  unfold Obligations.SecondEdgeIsLost
  intro s ch rest harmed hlow
  have hset : (s.sensorStep ch true).pending (channelEvent ch) = true := by
    rw [State.sensorStep_pending, risesArmed_of_armed_low harmed hlow, decide_eq_true rfl, Bool.true_and, Bool.or_true]
  have hlatch (l : List AgentStep) :
      ({ (s.sensorStep ch true).silent with agenda := l } : State).pending (channelEvent ch) = true := by
    rw [State.pending_withAgenda, State.silent_pending, hset]
  refine ⟨⟨_, step_sensor_withAgenda s ch true rest, hlatch rest⟩, ?lost⟩
  case lost =>
    obtain ⟨t, ht, hclear, -⟩ := step_service_edge (rest := rest) rfl (hlatch (.service (channelEvent ch) :: rest))
    have hserve : run 1 _ = .next t := run_succ 0 ht
    refine ⟨t, (run_succ 1 (step_sensor_withAgenda s ch true _)).trans hserve, ?twice, hclear⟩
    case twice =>
      rw [← State.sensorStep_second_rise harmed hlow] at hserve
      exact (run_succ 3 (step_sensor_withAgenda s ch true _)).trans <|
        (run_succ 2 (step_sensor_withAgenda _ ch false _)).trans <|
        (run_succ 1 (step_sensor_withAgenda _ ch true _)).trans hserve

end Sys2Proof.Machine
end

section
/-! PROOF. The family of 70_reset_and_hazards.md: what a hardware reset leaves in the registers. -/

namespace Sys2Proof.Machine

/-- A hardware reset forgets every register: of the state before it only the agenda and the draw counter, which are no
registers, are kept. -/
theorem State.hardReset_eq (s : State) :
    s.hardReset = { State.reset with agenda := s.agenda, drawn := s.drawn } := rfl

/-- The state a run begins in has nothing for a reset to change. -/
@[simp] theorem State.reset_hardReset : State.reset.hardReset = State.reset := rfl

/-- Settles O17: the registers after a reset are those of `State.reset`, whatever the state before it. -/
theorem resetRegisterValues : Obligations.ResetRegisterValues := by
  unfold Obligations.ResetRegisterValues
  refine ⟨fun s => ?registers, State.reset_hardReset⟩
  case registers =>
    rw [State.hardReset_eq]
    simp [State.reset]

end Sys2Proof.Machine
end

section
/-! PROOF. The encoder and the decoder undo each other (30_encoding.md). -/

namespace Sys2Proof

/-- An edge word encodes the operation that its two low bits name (30_encoding.md R94). -/
theorem encodeOp_edge_of_mask : ∀ op : OpWord, op &&& 0xFC#8 = 0x10#8 →
    encodeOp (if op.getLsbD 0 then .edgeB (op.getLsbD 1) else .edgeA (op.getLsbD 1)) = op := by decide

/-- Of the assigned words INIT's alone has a data word beside it (30_encoding.md R90). -/
theorem eq_init_of_opHasData : ∀ op ∈ assignedWords, opHasData op = true → op = 0x30#8 := by decide

theorem mem_assignedWords_of_decode {op : OpWord} {d : Word} {i : Instr} (h : decode op d = .ok i) :
    op ∈ assignedWords := by
  by_contra hm
  rw [decode_of_not_mem_assignedWords hm d] at h
  cases h

/-- What a word decodes to is well-formed, and its operation word is that word. -/
theorem encodeOp_of_decode {op : OpWord} {d : Word} {i : Instr} (h : decode op d = .ok i) :
    i.wellFormed = true ∧ encodeOp i = op := by
  rcases (mem_assignedWords_iff_mask op).1 (mem_assignedWords_of_decode h) with he | hw
  · rw [decode_edge he d] at h
    cases h
    exact ⟨by split <;> rfl, encodeOp_edge_of_mask op he⟩
  · have hbound : (Instr.init d.toNat).wellFormed = true := decide_eq_true d.isLt
    simp only [List.mem_cons, List.not_mem_nil, or_false] at hw
    rcases hw with rfl | rfl | rfl | rfl | rfl | rfl <;> cases h
    · exact ⟨rfl, rfl⟩
    · exact ⟨hbound, rfl⟩
    all_goals exact ⟨rfl, rfl⟩

/-- Settles O1, operation by operation; INIT's operand survives because it fits in 32 bits. -/
theorem decodeInvertsEncode : Obligations.DecodeInvertsEncode := by
  unfold Obligations.DecodeInvertsEncode
  intro i hi
  cases i with
  | edgeA l => cases l <;> rfl
  | edgeB l => cases l <;> rfl
  | tick => exact decode_tick _
  | init n =>
    have hback : (BitVec.ofNat 32 n).toNat = n := Nat.mod_eq_of_lt (of_decide_eq_true hi)
    calc decode (encode (.init n)).1 (encode (.init n)).2
        = .ok (.init (BitVec.ofNat 32 n).toNat) := decode_init _
      _ = .ok (.init n) := by rw [hback]
  | setHome => exact decode_setHome _
  | getPosition => exact decode_getPosition _
  | getVelocity => exact decode_getVelocity _
  | disarm => exact decode_disarm _

/-- Settles O2; the data word matters for INIT alone, the one operation that has it. -/
theorem encodeInvertsDecode : Obligations.EncodeInvertsDecode := by
  unfold Obligations.EncodeInvertsDecode
  intro op d i h
  obtain ⟨hwf, hop⟩ := encodeOp_of_decode h
  refine ⟨hwf, hop, fun hdata => ?data⟩
  case data =>
    obtain rfl := eq_init_of_opHasData op (mem_assignedWords_of_decode h) hdata
    cases h
    exact BitVec.eq_of_toNat_eq (Nat.mod_eq_of_lt d.isLt)

/-- Settles O5: the four edge words by their low bits, the other six as whole words. -/
theorem assignedWordsDecode : Obligations.AssignedWordsDecode := by
  unfold Obligations.AssignedWordsDecode
  intro d
  exact ⟨decode_edge (by decide) d, decode_edge (by decide) d, decode_edge (by decide) d, decode_edge (by decide) d,
    decode_tick d, decode_init 100#32, decode_setHome d, decode_getPosition d, decode_getVelocity d, decode_disarm d⟩

end Sys2Proof
end

section
/-! PROOF. The filter of 41_velocity_filter.md as a function of numbers: its output lies between the raw sample and the
previous speed, it converges under a constant sample, and the reversal formula lands closer to the sample. -/

namespace Sys2Proof.Machine

/-! ### One output -/

/-- Both formulas are weighted means, rounded down, so they stay between their two arguments (41_velocity_filter.md R158). -/
theorem filterOutput_mem_range (changed : Bool) (raw prev : Nat) :
    min raw prev ≤ filterOutput changed raw prev ∧ filterOutput changed raw prev ≤ max raw prev := by
  cases changed with
  | true => rw [filterOutput_of_reversal]; omega
  | false => rw [filterOutput_of_normal]; omega

/-- The register holds the filter's output unwrapped. -/
theorem wrapU32_filterOutput_toNat {raw : Nat} (hraw : raw ≤ speedMax) (changed : Bool) (prev : Word) :
    (wrapU32 (filterOutput changed raw prev.toNat)).toNat = filterOutput changed raw prev.toNat := by
  rw [wrapU32_natCast_toNat, Nat.mod_eq_of_lt (filterOutput_lt_two_pow hraw changed prev)]

theorem State.updateSpeed_speedCur_toNat (samples period : Nat) (s : State) :
    (s.updateSpeed samples period).speedCur.toNat =
      filterOutput s.dirChanged (rawSample samples period) s.speedCur.toNat := by
  rw [State.updateSpeed_speedCur, wrapU32_filterOutput_toNat (rawSample_le_speedMax samples period)]

/-! ### Many outputs under one sample -/

theorem filterOutput_false : filterOutput false = filterNormal := rfl

/-- Without a reversal UpdateSpeed iterates the normal formula (41_velocity_filter.md R155, R156). -/
theorem State.updateSpeed_iterate (samples period : Nat) {s : State} (h : s.dirChanged = false) (m : Nat) :
    ((State.updateSpeed samples period)^[m] s).dirChanged = false ∧
    ((State.updateSpeed samples period)^[m] s).speedCur.toNat =
      (filterNormal (rawSample samples period))^[m] s.speedCur.toNat := by
  induction m with
  | zero => exact ⟨h, rfl⟩
  | succ m ih =>
    obtain ⟨hd, hcur⟩ := ih
    rw [Function.iterate_succ_apply', Function.iterate_succ_apply', State.updateSpeed_speedCur_toNat, hd, hcur,
      filterOutput_false]
    exact ⟨State.updateSpeed_dirChanged .., rfl⟩

/-- One step of the normal formula never leads away from the sample (41_velocity_filter.md R160). -/
theorem filterNormal_distance_le (raw prev : Nat) :
    ((filterNormal raw prev : Int) - raw).natAbs ≤ ((prev : Int) - raw).natAbs := by
  rw [filterNormal]; omega

/-- From above the output falls by at least 1 in each step, until it meets the sample. -/
theorem filterNormal_iterate_above {raw prev : Nat} (h : raw ≤ prev) (m : Nat) :
    raw ≤ (filterNormal raw)^[m] prev ∧ (filterNormal raw)^[m] prev ≤ max raw (prev - m) := by
  induction m with
  | zero => exact ⟨h, le_max_right _ _⟩
  | succ m ih => rw [Function.iterate_succ_apply', filterNormal]; omega

/-- From below the output rises by at least 1 in each step, until it is within 2 of the sample. -/
theorem filterNormal_iterate_below {raw prev : Nat} (h : prev ≤ raw) (m : Nat) :
    (filterNormal raw)^[m] prev ≤ raw ∧ min (raw - 2) (prev + m) ≤ (filterNormal raw)^[m] prev := by
  induction m with
  | zero => exact ⟨h, min_le_right _ _⟩
  | succ m ih => rw [Function.iterate_succ_apply', filterNormal]; omega

/-- Rounding down holds the output where it is at most 2 short of the sample. -/
theorem filterNormal_fixed {raw prev : Nat} (hle : prev ≤ raw) (hnear : raw ≤ prev + 2) :
    filterNormal raw prev = prev := by
  rw [filterNormal]; omega

/-! ### The obligations -/

/-- Settles O27: the output is the weighted mean itself, for it never wraps. -/
theorem filterOutputBounds : Obligations.FilterOutputBounds := by
  unfold Obligations.FilterOutputBounds
  intro samples period s hs raw t
  have hmax : speedMax = 2 ^ 31 - 1 := rfl
  have hraw : raw ≤ speedMax := rawSample_le_speedMax samples period
  have hcur : t.speedCur.toNat = filterOutput s.dirChanged raw s.speedCur.toNat :=
    State.updateSpeed_speedCur_toNat samples period s
  obtain ⟨hlo, hhi⟩ := filterOutput_mem_range s.dirChanged raw s.speedCur.toNat
  have hprev : t.speedPrev = s.speedCur := rfl
  refine ⟨hprev, ?_⟩
  rw [hprev, hcur]
  omega

/-- Settles O28: as many steps as the distance at the start bring the output to its final value, from either side. -/
theorem filterConverges : Obligations.FilterConverges := by
  unfold Obligations.FilterConverges
  intro samples period s hdir _ raw out
  have hout (m : Nat) : out m = (filterNormal raw)^[m] s.speedCur.toNat :=
    (State.updateSpeed_iterate samples period hdir m).2
  clear_value raw
  obtain ⟨k, hfall, hrise⟩ : ∃ k, s.speedCur.toNat ≤ raw + k ∧ raw ≤ s.speedCur.toNat + k :=
    ⟨s.speedCur.toNat + raw, by omega, by omega⟩
  refine ⟨fun m => ?closer, k, fun m hm => ⟨fun h => ?above, fun h => ?below⟩⟩
  case closer =>
    rw [hout, hout, Function.iterate_succ_apply']
    exact filterNormal_distance_le raw _
  case above =>
    obtain ⟨hlo, hhi⟩ := filterNormal_iterate_above h m
    rw [hout]
    omega
  case below =>
    obtain ⟨j, rfl⟩ := Nat.exists_eq_add_of_le' hm
    obtain ⟨hlo, hhi⟩ := filterNormal_iterate_below h.le k
    have hstay : out (j + k) = out k := by
      rw [hout, hout, Function.iterate_add_apply]
      exact Function.iterate_fixed (filterNormal_fixed hlo (by omega)) j
    rw [hstay, hout]
    omega

/-- Settles O29: the larger weight on the raw sample pulls the output further towards it. -/
theorem reversalAtLeastAsClose : Obligations.ReversalAtLeastAsClose := by
  unfold Obligations.ReversalAtLeastAsClose
  intro samples period s _ raw rev nor
  have hrev : rev = (3 * raw + s.speedCur.toNat) / 4 :=
    (State.updateSpeed_speedCur_toNat samples period { s with dirChanged := true }).trans
      (filterOutput_of_reversal raw s.speedCur.toNat)
  have hnor : nor = (3 * raw + 5 * s.speedCur.toNat) / 8 :=
    (State.updateSpeed_speedCur_toNat samples period { s with dirChanged := false }).trans
      (filterOutput_of_normal raw s.speedCur.toNat)
  rw [hrev, hnor]
  omega

end Sys2Proof.Machine
end

section
/-! PROOF. The edge operations of 40_edge_decoder.md on both paths, and the TICK that finds no pulses. -/

namespace Sys2Proof.Machine

/-! ### What an edge leaves in its registers -/

/-- The slow path's timestamp is the time of the edge less the filter cost, in 32-bit arithmetic (40_edge_decoder.md R124). -/
theorem wrapU32_stamp (last now cost : Word) :
    wrapU32 ((last.toNat : Int) + (now - last).toNat - cost.toNat) = now - cost := by
  apply BitVec.eq_of_toNat_eq
  rw [wrapU32, BitVec.toNat_ofInt, BitVec.toNat_sub, BitVec.toNat_sub]
  have hlast := last.isLt
  have hnow := now.isLt
  have hcost := cost.isLt
  omega

/-- The new position with the count that moves it written out (40_edge_decoder.md R123). -/
theorem nextPosition_eq (ppr position : Nat) (d : Dir) :
    nextPosition ppr position d =
      if (position : Int) + d.toInt < 0 then (ppr : Int) - 1
      else if (position : Int) + d.toInt ≥ ppr then 0 else position + d.toInt := rfl

/-- An edge keeps an in-range position in range (40_edge_decoder.md R123). -/
theorem wrapU32_nextPosition_lt {ppr position : Word} (h : position.toNat < ppr.toNat) (d : Dir) :
    (wrapU32 (nextPosition ppr.toNat position.toNat d)).toNat < ppr.toNat := by
  have hmod := wrapU32_nextPosition_toNat h d
  have hlt := Int.emod_lt_of_pos (position.toNat + d.toInt) (b := ppr.toNat) (by omega)
  omega

/-- An edge of either channel at an in-range position, by its direction. -/
theorem exec_edge_position {s : State} (h : s.position.toNat < s.ppr.toNat) (ch : Channel) (l : Bool) :
    ∃ t, exec (.edge ch l) s = .next t ∧ t.position.toNat < t.ppr.toNat ∧
      (t.position.toNat : Int) = (s.position.toNat + (decodeDir ch l).toInt) % s.ppr.toNat := by
  refine ⟨_, exec_edge ch l s, ?_, ?_⟩
  · rw [State.silent_position, State.silent_ppr, State.edge_position, State.edge_ppr]
    exact wrapU32_nextPosition_lt h _
  · rw [State.silent_position, State.edge_position]
    exact wrapU32_nextPosition_toNat h _

/-- The slow path with its numbers written out (40_edge_decoder.md R121 to R124, 41_velocity_filter.md R151 to R157). -/
theorem State.edge_slow_eq (c : Config) (ch : Channel) (l : Bool) {s : State} (h : s.fastMode = false) :
    s.edge c ch l = { s with
      position := wrapU32 (nextPosition s.ppr.toNat s.position.toNat (decodeDir ch l))
      dirVec := decodeDir ch l
      dirChanged := false
      speedPrev := s.speedCur
      speedCur := BitVec.ofNat 32 (
        if (decodeDir ch l).toInt = s.dirVec.toInt then
          (3 * rawSample 1 (s.nowUs - s.lastEdgeUs).toNat + 5 * s.speedCur.toNat) / 8
        else (3 * rawSample 1 (s.nowUs - s.lastEdgeUs).toNat + s.speedCur.toNat) / 4)
      lastEdgeUs := s.nowUs - c.filterCostUs } := by
  rw [State.edge_slow c ch l s h, State.elapsed_eq, wrapU32_stamp, wrapU32_natCast, filterOutput_dirDiffers]

/-! ### The obligations -/

/-- Settles O21: the direction's integer is the `d` of the statement, and both paths of the filter follow from it. -/
theorem edgeSlowPath : Obligations.EdgeSlowPath := by
  unfold Obligations.EdgeSlowPath
  intro ch l s h i d p elapsed raw
  have hi : i = .edge ch l := by cases ch <;> rfl
  have hd : (decodeDir ch l).toInt = d := by cases ch <;> cases l <;> rfl
  have hdir : decodeDir ch l = if d = 1 then .ccw else .cw := by rw [← hd]; exact (decodeDir ch l).eq_ite_toInt
  have hraw : rawSample 1 (s.nowUs - s.lastEdgeUs).toNat = raw := rfl
  rw [hi, exec_edge, State.edge_slow_eq _ ch l h, nextPosition_eq, hd, hraw, hdir]
  rfl

/-- Settles O22: the accumulator takes the direction's integer and wraps once, for wrapping twice is wrapping once. -/
theorem edgeFastPath : Obligations.EdgeFastPath := by
  unfold Obligations.EdgeFastPath
  intro ch l s h i d p
  have hi : i = .edge ch l := by cases ch <;> rfl
  have hd : (decodeDir ch l).toInt = d := by cases ch <;> cases l <;> rfl
  rw [hi, exec_edge, State.edge_fast _ ch l s h, wrapU32_wrapS32, nextPosition_eq, hd]
  rfl

/-- Settles O23, by the direction of each channel. -/
theorem edgeMovesPositionModuloPpr : Obligations.EdgeMovesPositionModuloPpr := by
  unfold Obligations.EdgeMovesPositionModuloPpr
  intro l s h
  rw [← decodeDir_a_toInt, ← decodeDir_b_toInt]
  exact ⟨exec_edge_position h .a l, exec_edge_position h .b l⟩

/-- Settles O32: no pulses count as CCW with a raw sample of 0, which the reversal formula takes at weight 3/4. -/
theorem tickWithoutPulsesRecordsCcw : Obligations.TickWithoutPulsesRecordsCcw := by
  unfold Obligations.TickWithoutPulsesRecordsCcw
  intro s hfast hpulses hcw
  have hdir : s.sampleDir = .ccw := by rw [State.sampleDir, hpulses]; rfl
  have hcount : s.pulseCount = 0 := by rw [State.pulseCount, hpulses]; rfl
  have hraw : rawSample 0 Config.block.tickPeriodUs = 0 := by
    rw [rawSample, Nat.zero_mul, Nat.zero_div, Nat.zero_min]
  have hspeed : (s.fastSample Config.block).speedCur.toNat = s.speedCur.toNat / 4 := by
    rw [State.fastSample_speedCur_toNat, State.sampleSpeed, hdir, hcount, hraw, dirDiffers, hcw,
      decide_eq_true (by decide), filterOutput_of_reversal, Nat.mul_zero, Nat.zero_add]
  refine ⟨_, exec_tick s, ?_⟩
  rw [State.tick_fast _ s hfast]
  exact ⟨hdir, rfl, hspeed⟩

end Sys2Proof.Machine
end

section
/-! PROOF. One step of each agent from the agenda, and runs of Clock steps (60_exceptions.md, 70_reset_and_hazards.md). -/

namespace Sys2Proof.Machine

/-! ### The Clock -/

/-- A 32-bit counter counts on by 1. -/
theorem wrapU32_succ (w : Word) : wrapU32 ((w.toNat : Int) + 1) = w + 1 := by
  apply BitVec.eq_of_toNat_eq
  rw [← Nat.cast_succ, wrapU32_natCast_toNat, BitVec.toNat_add]
  rfl

/-- The sample timer after one Clock step while armed (60_exceptions.md R257). -/
def nextTimer (c : Config) (w : Word) : Word := if w.toNat + 1 = c.tickPeriodUs then 0 else w + 1

/-- `TICK_PERIOD_US` is a 32-bit number (00_scope.md R8). -/
theorem tickPeriodUs_lt (c : Config) : c.tickPeriodUs < 2 ^ 32 := by
  have h := c.tickPeriodLess1.isLt
  rw [Config.tickPeriodUs]
  omega

/-- A timer below the period counts modulo the period. -/
theorem nextTimer_toNat {c : Config} {w : Word} (h : w.toNat < c.tickPeriodUs) :
    (nextTimer c w).toNat = (w.toNat + 1) % c.tickPeriodUs := by
  have hlt := tickPeriodUs_lt c
  rw [nextTimer]
  split_ifs with hp
  · rw [hp, Nat.mod_self]; rfl
  · rw [← wrapU32_succ, ← Nat.cast_succ, wrapU32_natCast_toNat, Nat.mod_eq_of_lt (by omega), Nat.mod_eq_of_lt (by omega)]

theorem nextTimer_lt {c : Config} {w : Word} (h : w.toNat < c.tickPeriodUs) :
    (nextTimer c w).toNat < c.tickPeriodUs := by
  rw [nextTimer_toNat h]
  exact Nat.mod_lt _ c.tickPeriodUs_pos

theorem State.clockStep_disarmed_eq (c : Config) {s : State} (h : s.armed = false) :
    s.clockStep c = { s with nowUs := s.nowUs + 1 } := by
  rw [State.clockStep_disarmed c s h, wrapU32_succ]

theorem State.clockStep_armed_eq (c : Config) {s : State} (h : s.armed = true) :
    s.clockStep c = { s with
      nowUs := s.nowUs + 1
      tickTimer := nextTimer c s.tickTimer
      pendTick := decide (s.tickTimer.toNat + 1 = c.tickPeriodUs) || s.pendTick } := by
  rw [State.clockStep_armed c s h, wrapU32_succ, wrapU32_succ, nextTimer]

theorem step_clock_disarmed {s : State} {rest : List AgentStep} (h : s.agenda = .clock :: rest)
    (ha : s.armed = false) :
    step s = .next { s with agenda := rest, response := none, nowUs := s.nowUs + 1 } := by
  rw [step_cons h, agentStep, State.clockStep_disarmed_eq Config.block (s := { s with agenda := rest }) ha]; rfl

theorem step_clock_armed {s : State} {rest : List AgentStep} (h : s.agenda = .clock :: rest) (ha : s.armed = true) :
    step s = .next { s with
      agenda := rest, response := none, nowUs := s.nowUs + 1
      tickTimer := nextTimer Config.block s.tickTimer
      pendTick := decide (s.tickTimer.toNat + 1 = Config.block.tickPeriodUs) || s.pendTick } := by
  rw [step_cons h, agentStep, State.clockStep_armed_eq Config.block (s := { s with agenda := rest }) ha]; rfl

/-- Settles O8, by whether the block is armed and whether the timer reaches its period. -/
theorem clockStepCounts : Obligations.ClockStepCounts := by
  unfold Obligations.ClockStepCounts
  intro s rest hs wrapped
  refine ⟨fun ha => step_clock_disarmed hs ha, fun ha hw => ?counts, fun ha hw => ?wraps⟩
  case counts => rw [step_clock_armed hs ha, nextTimer, if_neg hw, decide_eq_false hw, Bool.false_or]
  case wraps => rw [step_clock_armed hs ha, nextTimer, if_pos hw, decide_eq_true hw, Bool.true_or]

/-! ### Runs of Clock steps, armed or not -/

/-- Time counts in every Clock step, and none touches the timestamp (60_exceptions.md R256). -/
theorem step_clock_time {s : State} {rest : List AgentStep} (h : s.agenda = .clock :: rest) :
    ∃ t, step s = .next t ∧ t.agenda = rest ∧ t.nowUs = s.nowUs + 1 ∧ t.lastEdgeUs = s.lastEdgeUs := by
  cases ha : s.armed with
  | true => exact ⟨_, step_clock_armed h ha, rfl, rfl, rfl⟩
  | false => exact ⟨_, step_clock_disarmed h ha, rfl, rfl, rfl⟩

theorem add_one_add_ofNat (w : Word) (k : Nat) : w + 1 + BitVec.ofNat 32 k = w + BitVec.ofNat 32 (k + 1) := by
  rw [BitVec.add_assoc, Nat.add_comm k, BitVec.ofNat_add]; rfl

theorem run_advance {k : Nat} {s : State} {rest : List AgentStep} (h : s.agenda = advance k ++ rest) :
    ∃ t, run k s = .next t ∧ t.nowUs = s.nowUs + BitVec.ofNat 32 k ∧ t.lastEdgeUs = s.lastEdgeUs := by
  induction k generalizing s with
  | zero => exact ⟨s, rfl, (BitVec.add_zero _).symm, rfl⟩
  | succ k ih =>
    obtain ⟨u, hu, hagenda, hnow, hlast⟩ := step_clock_time (rest := advance k ++ rest) h
    obtain ⟨t, ht, hnow', hlast'⟩ := ih hagenda
    exact ⟨t, (run_succ k hu).trans ht, by rw [hnow', hnow, add_one_add_ofNat], hlast'.trans hlast⟩

/-- The measured interval grows by the length of the run (70_reset_and_hazards.md R306). -/
theorem run_advance_elapsed {k : Nat} {s : State} {rest : List AgentStep} (h : s.agenda = advance k ++ rest) :
    ∃ t, run k s = .next t ∧ t.elapsed = (s.elapsed + k) % 2 ^ 32 ∧ t.lastEdgeUs = s.lastEdgeUs := by
  obtain ⟨t, ht, hnow, hlast⟩ := run_advance h
  refine ⟨t, ht, ?_, hlast⟩
  rw [State.elapsed_eq, State.elapsed_eq, hnow, hlast, BitVec.toNat_sub, BitVec.toNat_sub, BitVec.toNat_add,
    BitVec.toNat_ofNat]
  omega

/-- A slow-path edge leaves a measured interval of just the filter cost (70_reset_and_hazards.md R304). -/
theorem State.edge_slow_elapsed (c : Config) (ch : Channel) (l : Bool) {s : State} (h : s.fastMode = false) :
    (s.edge c ch l).silent.elapsed = c.filterCostUs.toNat := by
  rw [State.edge_slow_eq c ch l h, State.elapsed_eq]
  exact congrArg BitVec.toNat (sub_sub_cancel s.nowUs c.filterCostUs)

/-- After a slow-path edge on either channel, `k` Clock steps measure their own length and the filter cost. -/
theorem slowEdge_run_advance_elapsed (k : Nat) (ch : Channel) (l : Bool) {s : State} {rest : List AgentStep}
    (h : s.fastMode = false) (hs : s.agenda = advance k ++ rest) :
    ∃ t u, exec (.edge ch l) s = .next t ∧ run k t = .next u ∧
      u.elapsed = (k + Config.block.filterCostUs.toNat) % 2 ^ 32 := by
  have hagenda : (s.edge Config.block ch l).silent.agenda = advance k ++ rest := (State.edge_agenda ..).trans hs
  obtain ⟨u, hu, helapsed, -⟩ := run_advance_elapsed hagenda
  refine ⟨_, u, exec_edge ch l s, hu, ?_⟩
  rw [helapsed, State.edge_slow_elapsed _ ch l h, Nat.add_comm]

/-- Settles O25, from the time that a run of Clock steps adds. -/
theorem silenceMeasuredModulo : Obligations.SilenceMeasuredModulo := by
  unfold Obligations.SilenceMeasuredModulo
  intro k s rest hs
  exact run_advance_elapsed hs

/-- Settles O24, for channel A and channel B. -/
theorem slowEdgeCostCompensation : Obligations.SlowEdgeCostCompensation := by
  unfold Obligations.SlowEdgeCostCompensation
  intro k l s rest h hs
  exact ⟨slowEdge_run_advance_elapsed k .a l h hs, slowEdge_run_advance_elapsed k .b l h hs⟩

/-! ### Runs of Clock steps while armed -/

/-- The period is reached within `k + 1` steps: in the first of them, or in the `k` steps after it. -/
theorem period_reached_succ {period timer : Nat} (h : timer < period) (k : Nat) :
    (timer + 1 = period ∨ period ≤ (timer + 1) % period + k) ↔ period ≤ timer + (k + 1) := by
  rcases Nat.lt_or_ge (timer + 1) period with hlt | hge
  · rw [Nat.mod_eq_of_lt hlt]; omega
  · omega

/-- Settles O9, by induction over the steps, each of which counts the timer modulo the period. -/
theorem tickRaisedEveryPeriod : Obligations.TickRaisedEveryPeriod := by
  unfold Obligations.TickRaisedEveryPeriod
  intro k
  induction k with
  | zero =>
    intro s rest harmed hlt hs
    have hrest : s.agenda = rest := hs
    have htimer : BitVec.ofNat 32 ((s.tickTimer.toNat + 0) % Config.block.tickPeriodUs) = s.tickTimer := by
      rw [Nat.add_zero, Nat.mod_eq_of_lt hlt, BitVec.ofNat_toNat, BitVec.setWidth_eq]
    have hpend : decide (Config.block.tickPeriodUs ≤ s.tickTimer.toNat + 0) = false := decide_eq_false (by omega)
    rw [run_zero, htimer, hpend, Bool.or_false, if_pos rfl, ← hrest, BitVec.add_zero]
  | succ k ih =>
    intro s rest harmed hlt hs
    have hpend : (decide (s.tickTimer.toNat + 1 = Config.block.tickPeriodUs) || s.pendTick ||
          decide (Config.block.tickPeriodUs ≤ (s.tickTimer.toNat + 1) % Config.block.tickPeriodUs + k)) =
        (s.pendTick || decide (Config.block.tickPeriodUs ≤ s.tickTimer.toNat + (k + 1))) := by
      rw [← decide_eq_decide.2 (period_reached_succ hlt k), Bool.decide_or, Bool.or_comm _ s.pendTick, Bool.or_assoc]
    rw [run_succ k (step_clock_armed (rest := advance k ++ rest) hs harmed), ih _ rest ?armed ?below rfl,
      if_neg (Nat.succ_ne_zero k), add_one_add_ofNat, nextTimer_toNat hlt, hpend, Nat.mod_add_mod, Nat.add_right_comm,
      ite_self]
    case armed => exact harmed
    case below => exact nextTimer_lt hlt
    rfl

end Sys2Proof.Machine
end

section
/-! PROOF. The agents' steps as the agenda gives them: the operation that a word stands for, what a service step does to the
latches, reads in a row, and fairness (60_exceptions.md, 43_host_commands.md). -/

namespace Sys2Proof.Machine

/-! ### What each shared operation leaves as it was -/

theorem State.clockStep_frame (c : Config) (s : State) :
    s.clockStep c = { s with
      nowUs := s.nowUs + 1, tickTimer := (s.clockStep c).tickTimer, pendTick := (s.clockStep c).pendTick } := by
  rcases s.armed.eq_false_or_eq_true with h | h
  · rw [State.clockStep_armed_eq c h]
  · rw [State.clockStep_disarmed_eq c h]

theorem State.sensorStep_frame (ch : Channel) (v : Bool) (s : State) :
    s.sensorStep ch v = { s with
      lvlA := (s.sensorStep ch v).lvlA, lvlB := (s.sensorStep ch v).lvlB
      pendA := (s.sensorStep ch v).pendA, pendB := (s.sensorStep ch v).pendB } := by
  cases ch with
  | a => rw [State.sensorStep_a]
  | b => rw [State.sensorStep_b]

theorem State.edge_frame (c : Config) (ch : Channel) (l : Bool) (s : State) :
    s.edge c ch l = { s with
      position := wrapU32 (nextPosition s.ppr.toNat s.position.toNat (decodeDir ch l))
      dirVec := (s.edge c ch l).dirVec, dirChanged := (s.edge c ch l).dirChanged
      speedPrev := (s.edge c ch l).speedPrev, speedCur := (s.edge c ch l).speedCur
      pulsesPerSample := (s.edge c ch l).pulsesPerSample, lastEdgeUs := (s.edge c ch l).lastEdgeUs } := by
  rcases s.fastMode.eq_false_or_eq_true with h | h
  · rw [State.edge_fast c ch l s h]
  · rw [State.edge_slow c ch l s h]

theorem State.tick_frame (c : Config) (s : State) :
    s.tick c = { s with
      dirVec := (s.tick c).dirVec, dirChanged := (s.tick c).dirChanged, speedPrev := (s.tick c).speedPrev
      speedCur := (s.tick c).speedCur, pulsesPerSample := 0, fastMode := (s.tick c).fastMode } := by
  rcases s.fastMode.eq_false_or_eq_true with h | h
  · rw [State.tick_fast c s h]
  · rw [State.tick_slow c s h]

/-- No agent touches the draw counter; only the choice of the next step does (assumption 1). -/
theorem agentStep_drawn {a : AgentStep} {s t : State} (h : agentStep a s = .next t) : t.drawn = s.drawn := by
  rcases agentStep_cases h with
    ⟨rfl, rfl⟩ | ⟨ch, v, rfl, rfl⟩ | ⟨op, d, rfl, hp, rfl⟩ | ⟨d, rfl, hn, rfl⟩ | ⟨d, rfl, hn, rfl⟩ | ⟨d, rfl, rfl⟩ |
    ⟨d, rfl, rfl⟩ | ⟨d, rfl, rfl⟩ | ⟨d, rfl, rfl⟩ | ⟨e, rfl, _, rfl⟩ | ⟨rfl, _, rfl⟩ | ⟨rfl, _, rfl⟩ | ⟨rfl, _, rfl⟩
  · rw [State.clockStep_frame]; rfl
  · rw [State.sensorStep_frame]; rfl
  iterate 8 · rfl
  · rw [State.edge_frame]; rfl
  · rw [State.edge_frame]; rfl
  · rw [State.tick_frame]; rfl

/-- The position after a step: as before, at home by INIT or SET_HOME, or moved by the edge that was served
(10_state.md R34). -/
theorem agentStep_position {a : AgentStep} {s t : State} (h : agentStep a s = .next t) :
    t.position = s.position ∨ t.position = 0 ∨
      ∃ ch l, a = .service (channelEvent ch) ∧ s.pending (channelEvent ch) = true ∧
        t.position = wrapU32 (nextPosition s.ppr.toNat s.position.toNat (decodeDir ch l)) := by
  rcases agentStep_cases h with
    ⟨rfl, rfl⟩ | ⟨ch, v, rfl, rfl⟩ | ⟨op, d, rfl, hp, rfl⟩ | ⟨d, rfl, hn, rfl⟩ | ⟨d, rfl, hn, rfl⟩ | ⟨d, rfl, rfl⟩ |
    ⟨d, rfl, rfl⟩ | ⟨d, rfl, rfl⟩ | ⟨d, rfl, rfl⟩ | ⟨e, rfl, _, rfl⟩ | ⟨rfl, hs, rfl⟩ | ⟨rfl, hs, rfl⟩ | ⟨rfl, hs, rfl⟩
  · rw [State.clockStep_frame]; exact .inl rfl
  · rw [State.sensorStep_frame]; exact .inl rfl
  · exact .inl rfl
  · exact .inr (.inl rfl)
  · exact .inl rfl
  · exact .inr (.inl rfl)
  iterate 4 · exact .inl rfl
  · exact .inr (.inr ⟨.a, s.lvlB, rfl, hs, State.edge_position ..⟩)
  · exact .inr (.inr ⟨.b, s.lvlA, rfl, hs, State.edge_position ..⟩)
  · rw [State.tick_frame]; exact .inl rfl

/-- The modulus after a step: as before, or written by a successful INIT (10_state.md R33). -/
theorem agentStep_ppr {a : AgentStep} {s t : State} (h : agentStep a s = .next t) :
    t.ppr = s.ppr ∨ ∃ n : Nat, pprLegal n = true ∧ t.ppr = wrapU32 n := by
  rcases agentStep_cases h with
    ⟨rfl, rfl⟩ | ⟨ch, v, rfl, rfl⟩ | ⟨op, d, rfl, hp, rfl⟩ | ⟨d, rfl, hn, rfl⟩ | ⟨d, rfl, hn, rfl⟩ | ⟨d, rfl, rfl⟩ |
    ⟨d, rfl, rfl⟩ | ⟨d, rfl, rfl⟩ | ⟨d, rfl, rfl⟩ | ⟨e, rfl, _, rfl⟩ | ⟨rfl, _, rfl⟩ | ⟨rfl, _, rfl⟩ | ⟨rfl, _, rfl⟩
  · rw [State.clockStep_frame]; exact .inl rfl
  · rw [State.sensorStep_frame]; exact .inl rfl
  · exact .inl rfl
  · exact .inr ⟨d.toNat, hn, rfl⟩
  iterate 6 · exact .inl rfl
  · exact .inl (State.edge_ppr ..)
  · exact .inl (State.edge_ppr ..)
  · rw [State.tick_frame]; exact .inl rfl

/-! ### Service -/

/-- TICK writes no latch. -/
theorem State.tick_pending (c : Config) (s : State) (e : Event) : (s.tick c).pending e = s.pending e := by
  cases h : s.fastMode with
  | true => rw [State.tick_fast c s h]; cases e <;> rfl
  | false => rw [State.tick_slow c s h]; cases e <;> rfl

/-- No operation of the service engine writes a latch; the service step itself clears the one it takes. -/
theorem exec_serviceInstr_pending {e : Event} {r s t : State} (h : exec (serviceInstr e r) s = .next t) (f : Event) :
    t.pending f = s.pending f := by
  cases e with
  | edgeA => cases h; exact (State.silent_pending ..).trans (State.edge_pending ..)
  | edgeB => cases h; exact (State.silent_pending ..).trans (State.edge_pending ..)
  | tick => cases h; exact (State.silent_pending ..).trans (State.tick_pending ..)

/-- The service of a set latch clears that latch and leaves the other two (60_exceptions.md R259, R260). -/
theorem agentStep_service_pending {e : Event} {s t : State} (hp : s.pending e = true)
    (h : agentStep (.service e) s = .next t) (f : Event) : t.pending f = (decide (f ≠ e) && s.pending f) := by
  rw [agentStep_service_set hp] at h
  rw [exec_serviceInstr_pending h, State.takeEvent_pending, decide_eq_decide.2 ne_comm]

/-! ### The obligations -/

/-- Settles O16: choosing the next agent step always succeeds, and so does every agent step. -/
theorem everyStepCompletes : Obligations.EveryStepCompletes := by
  unfold Obligations.EveryStepCompletes
  exact fun s => agentStep_total s.nextAgent s.afterChoice

/-- Settles O15: the step is the agent's own, and a service step is enabled on a set latch only. -/
theorem anyEnabledAgentMayBeNext : Obligations.AnyEnabledAgentMayBeNext := by
  unfold Obligations.AnyEnabledAgentMayBeNext
  intro s a rest henabled
  obtain ⟨t, ht⟩ := agentStep_total a { s with agenda := rest }
  have hdrawn := agentStep_drawn ht
  refine ⟨t, (step_cons rfl).trans ht, agentStep_agenda ht, hdrawn, fun e he f => ?latches⟩
  case latches =>
    subst he
    have hp : ({ s with agenda := rest } : State).pending e = true := (State.pending_withAgenda ..).trans henabled
    rw [agentStep_service_pending hp ht, State.pending_withAgenda]

/-- Settles O6: on the port, by service and by a draw. -/
theorem stepRunsDecodedOperation : Obligations.StepRunsDecodedOperation := by
  unfold Obligations.StepRunsDecodedOperation
  refine ⟨fun s op d rest i hs hd hi => step_host_accepted hs hd hi, fun s e d rest i hs hp hd => ?service,
    fun s hs => step_nil hs⟩
  case service =>
    rw [decode_serviceWord] at hd
    cases hd
    exact step_service_set hs hp

/-- Settles O12, event by event. -/
theorem serviceStepTakesEvent : Obligations.ServiceStepTakesEvent := by
  unfold Obligations.ServiceStepTakesEvent
  exact fun s rest => ⟨fun hs hp => step_service_set (e := .edgeA) hs hp,
    fun hs hp => step_service_set (e := .edgeB) hs hp, fun hs hp => step_service_set (e := .tick) hs hp⟩

/-- Settles O13: taking the step off the agenda touches no latch, so the service engine finds nothing to take. -/
theorem serviceOfClearLatchIdles : Obligations.ServiceOfClearLatchIdles := by
  unfold Obligations.ServiceOfClearLatchIdles
  intro s e rest hs hp
  rw [step_cons hs, agentStep_service_clear ((State.pending_withAgenda ..).trans hp)]
  rfl

/-- Settles O44: a read writes the response alone, which no read depends on. -/
theorem readsAreIdempotent : Obligations.ReadsAreIdempotent := by
  unfold Obligations.ReadsAreIdempotent
  rintro s op d d' rest (rfl | rfl) hs
  · exact ⟨_, _, ⟨.ok, s.position⟩, step_host_accepted hs (decode_getPosition d) rfl,
      step_host_accepted rfl (decode_getPosition d') rfl, rfl, rfl⟩
  · exact ⟨_, _, ⟨.ok, wrapU32 s.velocity⟩, step_host_accepted hs (decode_getVelocity d) rfl,
      step_host_accepted rfl (decode_getVelocity d') rfl, rfl, rfl⟩

/-- Settles O49: a latch that stayed set would be served, and the service clears it. -/
theorem fairServiceClearsLatches : Obligations.FairServiceClearsLatches := by
  unfold Obligations.FairServiceClearsLatches
  intro x hfair e n
  by_contra hnever
  push Not at hnever
  have hset (m : Nat) (hm : n ≤ m) : (x.st m).pending e = true := Bool.eq_true_of_not_eq_false (hnever m hm)
  obtain ⟨m, hm, hact⟩ := hfair e n hset
  have hstep : agentStep (.service e) (x.st m) = .next (x.st (m + 1)) := hact ▸ x.follows m
  have hclear := agentStep_service_pending (hset m hm) hstep e
  rw [hset (m + 1) (Nat.le_succ_of_le hm), decide_eq_false (not_not_intro rfl), Bool.false_and] at hclear
  cases hclear

end Sys2Proof.Machine
end

section
/-! PROOF. The invariants of 10_state.md R50: they hold at reset, and every operation on the registers keeps them. -/

namespace Sys2Proof.Machine

/-! ### The invariants, operation by operation -/

/-- Item 6 is kept where the three latches are. -/
theorem State.Inv.quiet_of_latches {c : Config} {s t : State} (h : s.Inv c) (hA : t.pendA = s.pendA)
    (hB : t.pendB = s.pendB) (hT : t.pendTick = s.pendTick) (ha : s.armed = false) (e : Event) : t.pending e = false := by
  cases e with
  | edgeA => exact hA.trans (h.quietDisarmed ha .edgeA)
  | edgeB => exact hB.trans (h.quietDisarmed ha .edgeB)
  | tick => exact hT.trans (h.quietDisarmed ha .tick)

/-- The invariants speak of the registers alone, so the response, the agenda and the draw counter are free. -/
theorem State.Inv.withOutput {c : Config} {s : State} (h : s.Inv c) (r : Option Response) (l : List AgentStep) (n : Nat) :
    ({ s with response := r, agenda := l, drawn := n } : State).Inv c :=
  { h with quietDisarmed := h.quiet_of_latches rfl rfl rfl }

theorem State.Inv.silent {c : Config} {s : State} (h : s.Inv c) : s.silent.Inv c :=
  h.withOutput none s.agenda s.drawn

theorem State.Inv.answer {c : Config} {s : State} (h : s.Inv c) (v : Word) : (s.answer v).Inv c :=
  h.withOutput _ s.agenda s.drawn

theorem State.Inv.raise {c : Config} {s : State} (h : s.Inv c) (st : Status) : (s.raise st).Inv c :=
  h.withOutput _ s.agenda s.drawn

theorem State.Inv.afterChoice {c : Config} {s : State} (h : s.Inv c) : s.afterChoice.Inv c := by
  rw [State.afterChoice_frame]
  exact h.withOutput s.response _ _

/-- Item 6 read from the latch: an event is pending only while the block is armed. -/
theorem State.Inv.armed_of_pending {c : Config} {s : State} (h : s.Inv c) {e : Event} (hp : s.pending e = true) :
    s.armed = true := by
  by_contra ha
  rw [h.quietDisarmed (Bool.eq_false_of_not_eq_true ha) e] at hp
  cases hp

/-- The position of an armed block moved into the range of its modulus. -/
theorem State.Inv.withPosition {c : Config} {s : State} (h : s.Inv c) {p : Word}
    (hp : s.armed = true → p.toNat < s.ppr.toNat) : ({ s with position := p } : State).Inv c :=
  { h with
    armedRange := fun ha => ⟨(h.armedRange ha).1, (h.armedRange ha).2.1, hp ha⟩
    quietDisarmed := h.quiet_of_latches rfl rfl rfl }

theorem State.Inv.takeEvent {c : Config} {s : State} (h : s.Inv c) (e : Event) : (s.takeEvent e).Inv c := by
  have hquiet (ha : s.armed = false) (f : Event) : (s.takeEvent e).pending f = false := by
    rw [State.takeEvent_pending, h.quietDisarmed ha f, Bool.and_false]
  cases e <;> exact { h with quietDisarmed := hquiet }

theorem State.Inv.sensorStep {c : Config} {s : State} (h : s.Inv c) (ch : Channel) (v : Bool) :
    (s.sensorStep ch v).Inv c := by
  have hquiet (ha : s.armed = false) (e : Event) : (s.sensorStep ch v).pending e = false := by
    rw [State.sensorStep_disarmed ha, State.setLevel_pending, h.quietDisarmed ha e]
  cases ch with
  | a => rw [State.sensorStep_a] at hquiet ⊢; exact { h with quietDisarmed := hquiet }
  | b => rw [State.sensorStep_b] at hquiet ⊢; exact { h with quietDisarmed := hquiet }

theorem State.Inv.clockStep {c : Config} {s : State} (h : s.Inv c) : (s.clockStep c).Inv c := by
  rcases s.armed.eq_false_or_eq_true with ha | ha
  · rw [State.clockStep_armed_eq c ha]
    exact { h with
      timerBelow := nextTimer_lt h.timerBelow
      quietDisarmed := fun ha' => absurd ha (Bool.eq_false_iff.1 ha') }
  · rw [State.clockStep_disarmed_eq c ha]
    exact { h with quietDisarmed := h.quiet_of_latches rfl rfl rfl }

/-- The filter keeps the speed in range, for both of its arguments are (41_velocity_filter.md R158). -/
theorem filterOutput_le_speedMax {raw prev : Nat} (hraw : raw ≤ speedMax) (hprev : prev ≤ speedMax) (changed : Bool) :
    filterOutput changed raw prev ≤ speedMax :=
  (filterOutput_mem_range changed raw prev).2.trans (max_le hraw hprev)

theorem State.Inv.edge {c : Config} {s : State} (h : s.Inv c) (ch : Channel) (l : Bool) : (s.edge c ch l).Inv c := by
  have hmoved := h.withPosition (p := wrapU32 (nextPosition s.ppr.toNat s.position.toNat (decodeDir ch l)))
    fun ha => wrapU32_nextPosition_lt (h.armedRange ha).2.2 _
  have hraw := rawSample_le_speedMax 1 s.elapsed
  rcases s.fastMode.eq_false_or_eq_true with hm | hm
  · rw [State.edge_fast c ch l s hm]
    exact { hmoved with
      slowEmpty := fun hm' => absurd hm (Bool.eq_false_iff.1 hm')
      quietDisarmed := h.quiet_of_latches rfl rfl rfl }
  · rw [State.edge_slow c ch l s hm]
    exact { hmoved with
      dirSettled := rfl
      curBounded := (wrapU32_filterOutput_toNat hraw _ _).trans_le (filterOutput_le_speedMax hraw h.curBounded _)
      prevBounded := h.curBounded
      quietDisarmed := h.quiet_of_latches rfl rfl rfl }

theorem State.Inv.tick {c : Config} {s : State} (h : s.Inv c) : (s.tick c).Inv c := by
  have hquiet (ha : s.armed = false) (e : Event) : (s.tick c).pending e = false := by
    rw [State.tick_pending, h.quietDisarmed ha e]
  rcases s.fastMode.eq_false_or_eq_true with hm | hm
  · have hcur : (s.fastSample c).speedCur.toNat ≤ speedMax := by
      rw [State.fastSample_speedCur_toNat]
      exact filterOutput_le_speedMax (rawSample_le_speedMax _ _) h.curBounded _
    rw [State.tick_fast c s hm] at hquiet ⊢
    exact { h with
      dirSettled := rfl, curBounded := hcur, prevBounded := h.curBounded, slowEmpty := fun _ => rfl, quietDisarmed := hquiet }
  · rcases (stalled c s).eq_false_or_eq_true with hs | hs
    · rw [State.tick_slow_of_stalled hm hs] at hquiet ⊢
      exact { h with
        curBounded := Nat.zero_le _, prevBounded := h.curBounded, slowEmpty := fun _ => rfl, quietDisarmed := hquiet }
    · rw [State.tick_slow_of_not_stalled hm (Bool.eq_false_iff.1 hs)] at hquiet ⊢
      exact { h with slowEmpty := fun _ => rfl, quietDisarmed := hquiet }

/-- A legal count is held in the register unwrapped (43_host_commands.md R211). -/
theorem wrapU32_toNat_of_legal {n : Nat} (h : pprLegal n = true) : (wrapU32 n).toNat = n := by
  obtain ⟨-, hn⟩ := (pprLegal_eq_true_iff n).1 h
  have hmax : pprMax = 2 ^ 31 - 1 := rfl
  rw [wrapU32_natCast_toNat, Nat.mod_eq_of_lt (by omega)]

/-- A successful INIT meets the invariants whatever state it starts from. -/
theorem State.inv_configure (c : Config) {n : Nat} (h : pprLegal n = true) (s : State) : (s.configure n).Inv c where
  armedRange _ := by
    obtain ⟨hlo, hhi⟩ := (pprLegal_eq_true_iff n).1 h
    rw [State.configure_ppr, wrapU32_toNat_of_legal h]
    exact ⟨hlo, hhi, hlo⟩
  dirSettled := rfl
  curBounded := Nat.zero_le _
  prevBounded := Nat.zero_le _
  slowEmpty _ := rfl
  timerBelow := c.tickPeriodUs_pos
  quietDisarmed ha := nomatch ha

theorem State.Inv.disarm {c : Config} {s : State} (h : s.Inv c) : s.disarm.Inv c :=
  { h with armedRange := fun ha => (nomatch ha), quietDisarmed := fun _ e => by cases e <;> rfl }

theorem State.Inv.rejectConfig {c : Config} {s : State} (h : s.Inv c) : s.rejectConfig.Inv c :=
  { h.disarm with quietDisarmed := fun _ e => by cases e <;> rfl }

/-- Every agent's step keeps the invariants. -/
theorem State.Inv.of_agentStep {a : AgentStep} {s t : State} (hinv : s.Inv Config.block) (h : agentStep a s = .next t) :
    t.Inv Config.block := by
  rcases agentStep_cases h with
    ⟨rfl, rfl⟩ | ⟨ch, v, rfl, rfl⟩ | ⟨op, d, rfl, hp, rfl⟩ | ⟨d, rfl, hn, rfl⟩ | ⟨d, rfl, hn, rfl⟩ | ⟨d, rfl, rfl⟩ |
    ⟨d, rfl, rfl⟩ | ⟨d, rfl, rfl⟩ | ⟨d, rfl, rfl⟩ | ⟨e, rfl, _, rfl⟩ | ⟨rfl, _, rfl⟩ | ⟨rfl, _, rfl⟩ | ⟨rfl, _, rfl⟩
  · exact hinv.clockStep.silent
  · exact (hinv.sensorStep ch v).silent
  · exact hinv.raise .illegal
  · exact (s.inv_configure _ hn).answer 0
  · exact hinv.rejectConfig.raise .configError
  · exact (hinv.withPosition (p := 0) fun ha => (hinv.armedRange ha).1).answer 0
  · exact hinv.answer _
  · exact hinv.answer _
  · exact hinv.disarm.answer 0
  · exact hinv.silent
  · exact ((hinv.takeEvent .edgeA).edge .a s.lvlB).silent
  · exact ((hinv.takeEvent .edgeB).edge .b s.lvlA).silent
  · exact (hinv.takeEvent .tick).tick.silent

/-- Position and modulus stay below 2^31: an edge is served only while the block is armed, and then moves the position below
the modulus; a legal count is at most 2^31 - 1 (30_encoding.md R101). -/
theorem State.Inv.below_of_agentStep {c : Config} {a : AgentStep} {s t : State} (hinv : s.Inv c)
    (hpos : s.position.toNat < 2 ^ 31) (hppr : s.ppr.toNat < 2 ^ 31) (h : agentStep a s = .next t) :
    t.position.toNat < 2 ^ 31 ∧ t.ppr.toNat < 2 ^ 31 := by
  constructor
  · rcases agentStep_position h with hp | hp | ⟨ch, l, -, hpend, hp⟩ <;> rw [hp]
    · exact hpos
    · decide
    · obtain ⟨-, -, hlt⟩ := hinv.armedRange (hinv.armed_of_pending hpend)
      exact (wrapU32_nextPosition_lt hlt _).trans hppr
  · rcases agentStep_ppr h with hp | ⟨n, hn, hp⟩ <;> rw [hp]
    · exact hppr
    · rw [wrapU32_toNat_of_legal hn]
      obtain ⟨-, hle⟩ := (pprLegal_eq_true_iff n).1 hn
      exact Nat.lt_of_le_pred (by decide) hle

/-! ### The obligations -/

/-- Settles O19: choosing the next agent step touches no register, and every agent's step keeps the invariants. -/
theorem invariantsKept : Obligations.InvariantsKept := by
  unfold Obligations.InvariantsKept
  exact fun s t hinv h => hinv.afterChoice.of_agentStep h

/-- Settles O18: the block is disarmed at reset, and every register that the invariants bound is 0. -/
theorem resetMeetsInvariants : Obligations.ResetMeetsInvariants := by
  unfold Obligations.ResetMeetsInvariants
  exact {
    armedRange := fun ha => (nomatch ha)
    dirSettled := rfl
    curBounded := Nat.zero_le _
    prevBounded := Nat.zero_le _
    slowEmpty := fun _ => rfl
    timerBelow := Config.block.tickPeriodUs_pos
    quietDisarmed := fun _ e => by cases e <;> rfl }

/-- Settles O20, from what an agent's step does to the two registers. -/
theorem positionStaysBelowBit31 : Obligations.PositionStaysBelowBit31 := by
  unfold Obligations.PositionStaysBelowBit31
  intro s t hinv hpos hppr h
  refine hinv.afterChoice.below_of_agentStep ?_ ?_ h
  · rw [State.afterChoice_frame]; exact hpos
  · rw [State.afterChoice_frame]; exact hppr

end Sys2Proof.Machine
end

section
/-! PROOF. Properties kept through every sequence of agent steps: a speed of 0 until an edge is served, the position at home,
the quiet of a disarmed block, and the registers that no answer depends on. -/

namespace Sys2Proof.Machine

/-! ### Speed 0 in slow mode -/

/-- Slow mode at speed 0 (42_sample_clock.md R191, R192). -/
structure State.StoppedSlow (s : State) : Prop where
  slow : s.fastMode = false
  still : s.speedCur = 0

/-- TICK leaves it so, stalled or not. -/
theorem State.StoppedSlow.tick {s : State} (h : s.StoppedSlow) (c : Config) : (s.tick c).StoppedSlow := by
  rcases (stalled c s).eq_false_or_eq_true with hs | hs
  · rw [State.tick_slow_of_stalled h.slow hs]
    exact ⟨rfl, rfl⟩
  · have hmode : fastSelect c s.speedCur.toNat = false := by rw [h.still]; exact fastSelect_zero c
    rw [State.tick_slow_of_not_stalled h.slow (Bool.eq_false_iff.1 hs)]
    exact ⟨hmode, h.still⟩

theorem State.StoppedSlow.silent {s : State} (h : s.StoppedSlow) : s.silent.StoppedSlow := ⟨h.slow, h.still⟩

theorem State.StoppedSlow.wrapU32_velocity {s : State} (h : s.StoppedSlow) : wrapU32 s.velocity = 0 := by
  have hzero : s.velocity = 0 := by rw [State.velocity, h.still]; exact zero_mul _
  rw [hzero]; rfl

/-- Of all agent steps only the service of an edge can end it (42_sample_clock.md R192). -/
theorem State.StoppedSlow.of_agentStep {a : AgentStep} {s t : State} (hq : s.StoppedSlow) (ha : isEdgeService a = false)
    (h : agentStep a s = .next t) : t.StoppedSlow := by
  rcases agentStep_cases h with
    ⟨rfl, rfl⟩ | ⟨ch, v, rfl, rfl⟩ | ⟨op, d, rfl, hp, rfl⟩ | ⟨d, rfl, hn, rfl⟩ | ⟨d, rfl, hn, rfl⟩ | ⟨d, rfl, rfl⟩ |
    ⟨d, rfl, rfl⟩ | ⟨d, rfl, rfl⟩ | ⟨d, rfl, rfl⟩ | ⟨e, rfl, _, rfl⟩ | ⟨rfl, hs, rfl⟩ | ⟨rfl, hs, rfl⟩ | ⟨rfl, hs, rfl⟩
  · rw [State.clockStep_frame]; exact ⟨hq.slow, hq.still⟩
  · rw [State.sensorStep_frame]; exact ⟨hq.slow, hq.still⟩
  · exact ⟨hq.slow, hq.still⟩
  · exact ⟨rfl, rfl⟩
  iterate 6 · exact ⟨hq.slow, hq.still⟩
  · cases ha
  · cases ha
  · have htaken : (s.takeEvent .tick).StoppedSlow := ⟨hq.slow, hq.still⟩
    exact (htaken.tick Config.block).silent

/-- Settles O33: TICK leaves the block at speed 0 in slow mode, where the velocity is 0. -/
theorem stallScenario : Obligations.StallScenario := by
  unfold Obligations.StallScenario
  intro s hslow hstill
  have hstopped : (s.tick Config.block).silent.StoppedSlow := (State.StoppedSlow.tick ⟨hslow, hstill⟩ _).silent
  refine ⟨_, _, exec_tick s, hstopped.still, hstopped.slow, exec_getVelocity _, ?_⟩
  rw [State.answer_response, hstopped.wrapU32_velocity]

/-- Settles O34: the speed is kept at 0 along the sequence, and the read answers it. -/
theorem zeroSpeedHoldsUntilEdge : Obligations.ZeroSpeedHoldsUntilEdge := by
  unfold Obligations.ZeroSpeedHoldsUntilEdge
  intro mid rest d s hslow hstill hmid hs
  obtain ⟨t, ht, hrest, hstopped⟩ := run_keeps (P := State.StoppedSlow) (fun _ _ h => ⟨h.slow, h.still⟩)
    (fun a ha _ _ h => h.of_agentStep (hmid a ha)) hs ⟨hslow, hstill⟩
  have hread : step t = .next (State.answer (wrapU32 t.velocity) { t with agenda := rest }) :=
    step_host_accepted hrest (decode_getVelocity d) rfl
  refine ⟨_, (run_add ht).trans (run_succ 0 hread), hstopped.slow, hstopped.still, ?_⟩
  rw [State.answer_response, hstopped.wrapU32_velocity]

/-! ### The position at home -/

/-- Of all agent steps only the service of an edge can move the position from 0 (43_host_commands.md R217). -/
theorem agentStep_home {a : AgentStep} {s t : State} (hhome : s.position = 0) (ha : isEdgeService a = false)
    (h : agentStep a s = .next t) : t.position = 0 := by
  rcases agentStep_position h with hp | hp | ⟨ch, l, rfl, -, -⟩
  · exact hp.trans hhome
  · exact hp
  · cases ch <;> cases ha

/-- Settles O45: SET_HOME writes 0, the sequence keeps it, and the read answers it. -/
theorem homeReset : Obligations.HomeReset := by
  unfold Obligations.HomeReset
  intro mid rest d d' s hmid hs
  have hset : step s = .next (State.answer 0 { s with agenda := mid ++ .host 0x50#8 d' :: rest, position := 0 }) :=
    step_host_accepted hs (decode_setHome d) rfl
  obtain ⟨t, ht, hrest, hhome⟩ := run_keeps (P := fun u => u.position = 0) (mid := mid)
    (rest := .host 0x50#8 d' :: rest) (fun _ _ h => h) (fun a ha _ _ h => agentStep_home h (hmid a ha))
    (s := State.answer 0 { s with agenda := mid ++ .host 0x50#8 d' :: rest, position := 0 }) rfl rfl
  have hread : step t = .next (State.answer t.position { t with agenda := rest }) :=
    step_host_accepted hrest (decode_getPosition d') rfl
  refine ⟨_, (run_succ (mid.length + 1) hset).trans ((run_add ht).trans (run_succ 0 hread)), hhome, ?_⟩
  rw [State.answer_response, hhome]

/-! ### The quiet of a disarmed block -/

/-- The registers that a quiet block keeps, the others blanked: time, levels, the position and the outputs may change
(60_exceptions.md R254, R280). -/
def State.estimator (s : State) : State :=
  { s with nowUs := 0, lvlA := false, lvlB := false, position := 0, response := none, agenda := [] }

/-- `t` is quiet, with the registers of `s` but for time and levels, and the position kept or put at home. -/
structure State.QuietSince (s t : State) : Prop where
  quiet : t.Quiet
  position : t.position = s.position ∨ t.position = 0
  kept : t.estimator = s.estimator

theorem State.QuietSince.withAgenda {s t : State} (h : s.QuietSince t) (l : List AgentStep) :
    s.QuietSince { t with agenda := l } :=
  ⟨h.quiet.withAgenda l, h.position, h.kept⟩

theorem State.QuietSince.of_agentStep {a : AgentStep} {s t u : State} (hq : s.QuietSince t)
    (ha : isInitCommand a = false) (h : agentStep a t = .next u) : s.QuietSince u := by
  obtain ⟨hpos, hframe⟩ := hq.quiet.agentStep_frame ha h
  have hkept : u.estimator = t.estimator := by rw [hframe]; rfl
  refine ⟨hq.quiet.of_frame hframe, ?_, hkept.trans hq.kept⟩
  rcases hpos with hp | hp
  · rw [hp]; exact hq.position
  · exact .inr hp

/-- Settles O46: each step but INIT leaves a quiet block quiet. -/
theorem disarmedStaysQuiet : Obligations.DisarmedStaysQuiet := by
  unfold Obligations.DisarmedStaysQuiet
  intro mid rest s harmed hclear hmid hs
  obtain ⟨t, ht, -, hquiet, hpos, hkept⟩ := run_keeps (P := s.QuietSince) (fun _ l h => h.withAgenda l)
    (fun a ha _ _ h => h.of_agentStep (hmid a ha)) hs ⟨⟨harmed, hclear⟩, .inl rfl, rfl⟩
  have keeps {α : Type} (f : State → α) : f t.estimator = f s.estimator := congrArg f hkept
  exact ⟨t, ht, hquiet.disarmed, hquiet.clear, keeps State.tickTimer, keeps State.ppr, hpos,
    keeps State.dirVec, keeps State.dirChanged, keeps State.speedCur,
    keeps State.speedPrev, keeps State.pulsesPerSample, keeps State.lastEdgeUs,
    keeps State.fastMode, keeps State.cfgError⟩

/-! ### The hidden registers -/

/-- The state with `speed_prev` and `cfg_error` blanked: what later results can depend on. -/
def State.visible (s : State) : State := { s with speedPrev := 0, cfgError := false }

theorem State.sameButHidden_iff (s t : State) : s.SameButHidden t ↔ s.visible = t.visible := Iff.rfl

/-- The host observes the response, which is not among the hidden registers. -/
theorem State.SameButHidden.observed_eq {s t : State} (h : s.SameButHidden t) : s.observed = t.observed := by
  have hresp : s.visible.response = t.visible.response := congrArg State.response ((State.sameButHidden_iff s t).1 h)
  exact hresp

theorem State.visible_clockStep (c : Config) (s : State) : (s.visible.clockStep c).visible = (s.clockStep c).visible := by
  rcases s.armed.eq_false_or_eq_true with h | h
  · rw [State.clockStep_armed_eq c h, State.clockStep_armed_eq c (s := s.visible) h]; rfl
  · rw [State.clockStep_disarmed_eq c h, State.clockStep_disarmed_eq c (s := s.visible) h]; rfl

theorem State.visible_sensorStep (ch : Channel) (v : Bool) (s : State) :
    (s.visible.sensorStep ch v).visible = (s.sensorStep ch v).visible := by
  cases ch with
  | a => rw [State.sensorStep_a, State.sensorStep_a]; rfl
  | b => rw [State.sensorStep_b, State.sensorStep_b]; rfl

theorem State.visible_edge (c : Config) (ch : Channel) (l : Bool) (s : State) :
    (s.visible.edge c ch l).visible = (s.edge c ch l).visible := by
  rcases s.fastMode.eq_false_or_eq_true with h | h
  · rw [State.edge_fast c ch l s h, State.edge_fast c ch l s.visible h]; rfl
  · rw [State.edge_slow c ch l s h, State.edge_slow c ch l s.visible h]; rfl

theorem State.visible_tick (c : Config) (s : State) : (s.visible.tick c).visible = (s.tick c).visible := by
  rcases s.fastMode.eq_false_or_eq_true with h | h
  · rw [State.tick_fast c s h, State.tick_fast c s.visible h]; rfl
  · rw [State.tick_slow c s h, State.tick_slow c s.visible h]; rfl

/-- An operation on the blanked state ends alike but for the two registers (42_sample_clock.md R192, 10_state.md R43). -/
theorem exec_visible {i : Instr} {s t : State} (h : exec i s = .next t) :
    ∃ u, exec i s.visible = .next u ∧ u.visible = t.visible := by
  cases i with
  | edgeA l => cases h; exact ⟨_, rfl, congrArg State.silent (State.visible_edge _ .a l s)⟩
  | edgeB l => cases h; exact ⟨_, rfl, congrArg State.silent (State.visible_edge _ .b l s)⟩
  | tick => cases h; exact ⟨_, rfl, congrArg State.silent (State.visible_tick _ s)⟩
  | init n =>
    rw [exec_init] at h
    refine ⟨_, exec_init n _, ?_⟩
    cases hl : pprLegal n <;> rw [hl] at h <;> cases h <;> rfl
  | setHome => cases h; exact ⟨_, rfl, rfl⟩
  | getPosition => cases h; exact ⟨_, rfl, rfl⟩
  | getVelocity => cases h; exact ⟨_, rfl, rfl⟩
  | disarm => cases h; exact ⟨_, rfl, rfl⟩

theorem agentStep_visible {a : AgentStep} {s t : State} (h : agentStep a s = .next t) :
    ∃ u, agentStep a s.visible = .next u ∧ u.visible = t.visible := by
  cases a with
  | clock => cases h; exact ⟨_, rfl, congrArg State.silent (State.visible_clockStep _ s)⟩
  | sensor ch v => cases h; exact ⟨_, rfl, congrArg State.silent (State.visible_sensorStep ch v s)⟩
  | host op d =>
    cases hp : portAccepts op d with
    | none =>
      rw [agentStep_host_illegal hp] at h
      cases h
      exact ⟨_, agentStep_host_illegal hp, rfl⟩
    | some i =>
      rw [agentStep_host_accepted hp] at h ⊢
      exact exec_visible h
  | service e =>
    have hsame : s.visible.pending e = s.pending e := by cases e <;> rfl
    cases hp : s.pending e with
    | false =>
      rw [agentStep_service_clear hp] at h
      cases h
      exact ⟨_, agentStep_service_clear (hsame.trans hp), rfl⟩
    | true =>
      rw [agentStep_service_set hp] at h
      rw [agentStep_service_set (hsame.trans hp)]
      have htake : s.visible.takeEvent e = (s.takeEvent e).visible := by cases e <;> rfl
      have hinstr : serviceInstr e s.visible = serviceInstr e s := by cases e <;> rfl
      rw [htake, hinstr]
      exact exec_visible h

theorem step_visible {s t : State} (h : step s = .next t) :
    ∃ u, step s.visible = .next u ∧ u.visible = t.visible := by
  have hchoice : s.visible.afterChoice = s.afterChoice.visible := by
    simp only [State.afterChoice, State.visible]
    split <;> rfl
  rw [step, hchoice]
  exact agentStep_visible h

/-- Two states that look alike step to states that look alike. -/
theorem step_sameButHidden {s s' t t' : State} (hsame : s.SameButHidden s') (h : step s = .next t)
    (h' : step s' = .next t') : t.SameButHidden t' := by
  obtain ⟨u, hu, hut⟩ := step_visible h
  obtain ⟨u', hu', hut'⟩ := step_visible h'
  rw [State.sameButHidden_iff] at hsame ⊢
  rw [hsame, hu'] at hu
  cases hu
  exact hut.symm.trans hut'

/-- Settles O47, by induction over the steps; the response is among the things that look alike. -/
theorem hiddenRegistersUnobservable : Obligations.HiddenRegistersUnobservable := by
  unfold Obligations.HiddenRegistersUnobservable
  intro k
  induction k with
  | zero => exact fun s s' h => ⟨s, s', rfl, rfl, h, h.observed_eq⟩
  | succ k ih =>
    intro s s' h
    obtain ⟨u, hu⟩ := everyStepCompletes s
    obtain ⟨u', hu'⟩ := everyStepCompletes s'
    rw [run_succ k hu, run_succ k hu']
    exact ih u u' (step_sameButHidden h hu hu')

end Sys2Proof.Machine
end

section
/-! PROOF. The writers of each register, by the agents' steps (10_state.md R32). -/

namespace Sys2Proof.Machine

/-- Settles O48, agent step by agent step: the frame of each names the registers it writes, and for edges and TICK
the mode decides which. -/
theorem registersChangeOnlyByTheirWriters : Obligations.RegistersChangeOnlyByTheirWriters := by
  unfold Obligations.RegistersChangeOnlyByTheirWriters
  intro s t h init edge tick
  obtain ⟨l, n, hchoice⟩ : ∃ l n, s.afterChoice = { s with agenda := l, drawn := n } := ⟨_, _, s.afterChoice_frame⟩
  rw [step, hchoice] at h
  have htaken (e : Event) : (State.takeEvent e { s with agenda := l, drawn := n }).fastMode = s.fastMode := by
    cases e <;> rfl
  rcases agentStep_cases h with
    ⟨ha, rfl⟩ | ⟨ch, v, ha, rfl⟩ | ⟨op, d, ha, hp, rfl⟩ | ⟨d, ha, hn, rfl⟩ | ⟨d, ha, hn, rfl⟩ | ⟨d, ha, rfl⟩ |
    ⟨d, ha, rfl⟩ | ⟨d, ha, rfl⟩ | ⟨d, ha, rfl⟩ | ⟨e, ha, _, rfl⟩ | ⟨ha, hs, rfl⟩ | ⟨ha, hs, rfl⟩ | ⟨ha, hs, rfl⟩
  · rw [State.clockStep_frame]; simp [ha]
  · cases ch with
    | a => rw [State.sensorStep_a]; cases v <;> simp [ha]
    | b => rw [State.sensorStep_b]; cases v <;> simp [ha]
  · simp
  · simp [init, ha, isInitCommand]
  · simp [init, ha, isInitCommand]
  · simp [ha]
  · simp
  · simp
  · simp [ha]
  · simp
  · have hedge : edge := .inl ⟨ha, hs⟩
    rcases s.fastMode.eq_false_or_eq_true with hm | hm
    · rw [State.edge_fast _ _ _ _ ((htaken .edgeA).trans hm)]; simp [hedge, hm]
    · rw [State.edge_slow _ _ _ _ ((htaken .edgeA).trans hm)]; simp [hedge, hm]
  · have hedge : edge := .inr ⟨ha, hs⟩
    rcases s.fastMode.eq_false_or_eq_true with hm | hm
    · rw [State.edge_fast _ _ _ _ ((htaken .edgeB).trans hm)]; simp [hedge, hm]
    · rw [State.edge_slow _ _ _ _ ((htaken .edgeB).trans hm)]; simp [hedge, hm]
  · have htick : tick := ⟨ha, hs⟩
    rcases s.fastMode.eq_false_or_eq_true with hm | hm
    · rw [State.tick_fast _ _ ((htaken .tick).trans hm)]; simp [htick, hm]
    · rw [State.tick_slow _ _ ((htaken .tick).trans hm)]; simp [htick, hm]

end Sys2Proof.Machine
end
